-- ==== Sys2Proof/Word.lean ====
section
/-! DEFINITION. The words and the small index types of the part (R166): a word of the aperture, a byte, a fabric
address, and the numbers of masters, targets, slots and tags. -/

namespace Sys2Proof

/-- A word of the control aperture or of the data lines: 32 bits, bit 0 the least significant (R166). -/
abbrev Word := BitVec 32

/-- One byte of a fabric access. -/
abbrev Byte := BitVec 8

/-- A 28-bit fabric byte address (section 0.6). -/
abbrev FabricAddr := BitVec 28

/-- A master M0 to M5, named by its master port (R25). -/
abbrev Master := Fin 6

/-- A target T0 to T3 (R46). -/
abbrev Target := Fin 4

/-- A slot of the window table, 0 to 31 (R1). -/
abbrev Slot := Fin 32

/-- A tag 0 to 3 of a master port (R25). -/
abbrev Tag := Fin 4

/-- A generation of a slot: 0 to 15, with 15 followed by 0 (R6). -/
abbrev Gen := BitVec 4

end Sys2Proof
end

