-- ==== Sys2Proof/Syntax.lean ====
section
/-! DEFINITION. The commands of the block: one constructor of `Instr` for every row of spec/opcode_table.json, with what
the step is told from outside as its operands. A completion of a command has no operand: the command engine holds the
asking master, the identity and the parameters (R74). -/

namespace Sys2Proof

/-- A request on the lines of a master port (section 0.9). The kind and size fields are encoded as the access kind and
form fields of R166 (R30) and may name none. `wdata` holds the words on the write data lines: one word for a single
access, one word for each word of a burst in ascending address order, none for a read or a fetch. -/
structure Request where
  tag : Tag
  addr : FabricAddr
  kind : BitVec 2
  size : BitVec 3
  wdata : List Word
  deriving DecidableEq, Repr

/-- The rows of spec/opcode_table.json. -/
inductive Instr where
  /-- REQUEST_ACCEPTANCE (R26): the request presented at a master port. -/
  | requestAcceptance (m : Master) (r : Request)
  /-- RESOLUTION (R28). -/
  | resolution
  /-- ADMISSION (R49) at a target. -/
  | admission (t : Target)
  /-- ACCESS_START (R51) at a target. -/
  | accessStart (t : Target)
  /-- WAIT_COUNT_END (R54) at a target, with the levels of the ready, error and data lines. -/
  | waitCountEnd (t : Target) (ready error : Bool) (data : Word)
  /-- BEAT_END (R54) at a target, ready being high, with the levels of the error and data lines. -/
  | beatEnd (t : Target) (error : Bool) (data : Word)
  /-- RECOVERY_END (R55) at a target. -/
  | recoveryEnd (t : Target)
  /-- RESPONSE_TIMER_EXPIRY (R58) at a target. -/
  | responseTimerExpiry (t : Target)
  /-- RESPONSE_RETURN (R40) at a master port. -/
  | responseReturn (m : Master)
  /-- PARAMETER_WRITE (R70): the head of a port's aperture list is taken. -/
  | parameterWrite (m : Master)
  /-- ENGINE_GRANT (R74). -/
  | engineGrant
  /-- BAD_COMMAND (R77): completion of a command that is not known. -/
  | badCommand
  /-- CLAIM (R84): completion. -/
  | claim
  /-- CLAIM_COMMON (R87): completion. -/
  | claimCommon
  /-- EXTEND (R90): completion. -/
  | extend
  /-- RELEASE (R92): completion. -/
  | release
  /-- REVOKE (R94): completion. -/
  | revoke
  /-- SET_MEMBERS (R96): completion. -/
  | setMembers
  /-- QUERY (R98): completion. -/
  | query
  /-- QUERY_ADDRESS (R100): completion. -/
  | queryAddress
  /-- FIND_HELD (R102): completion. -/
  | findHeld
  /-- RENEW (R114): completion. -/
  | renew
  /-- SET_LEASE_CLOCK (R106): completion. -/
  | setLeaseClock
  /-- OFFER (R121): completion. -/
  | offer
  /-- WITHDRAW (R123): completion. -/
  | withdraw
  /-- ACCEPT (R125): completion. -/
  | accept
  /-- DECLINE (R124): completion. -/
  | decline
  /-- READ_FAULT (R135): completion. -/
  | readFault
  /-- CLEAR_FAULT (R136): completion. -/
  | clearFault
  /-- RELEASE_HOLD (R141): completion. -/
  | releaseHold
  /-- TAKE_NOTICE (R148): completion. -/
  | takeNotice
  /-- SET_NOTICE_ORDER (R149): completion. -/
  | setNoticeOrder
  /-- SET_NOTICE_ENABLE (R150): completion. -/
  | setNoticeEnable
  /-- SET_MASTER (R156): completion. -/
  | setMaster
  /-- QUERY_MASTER (R157): completion. -/
  | queryMaster
  /-- DETACH (R159): completion. -/
  | detach
  /-- ATTACH (R162): completion. -/
  | attach
  /-- SET_TARGET (R61): completion. -/
  | setTarget
  /-- TARGET_ONLINE (R62): completion. -/
  | targetOnline
  /-- TARGET_OFFLINE (R63): completion. -/
  | targetOffline
  /-- QUERY_TARGET (R64): completion. -/
  | queryTarget
  /-- LEASE_TICK (R105, R108): the prescaler expires. -/
  | leaseTick
  /-- LEASE_EXPIRY (R109): at one slot. -/
  | leaseExpiry (i : Slot)
  /-- GRACE_EXPIRY (R112): at one slot. -/
  | graceExpiry (i : Slot)
  /-- OFFER_EXPIRY (R113): at one slot. -/
  | offerExpiry (i : Slot)
  /-- MASTER_RESET (R43, R80, R163): assertion of a master reset line. -/
  | masterReset (m : Master)
  /-- MASTER_RESET_DEASSERTION (R44). -/
  | masterResetDeassertion (m : Master)
  /-- DEVICE_RESET (R45, R65, R81, R23, R153): assertion of the device reset input. -/
  | deviceReset
  /-- DEVICE_RESET_DEASSERTION (R45, R105). -/
  | deviceResetDeassertion
  /-- COMMAND_SUBMISSION (R71): the head of a port's aperture list is taken. -/
  | commandSubmission (m : Master)
  /-- APERTURE_ACCESS_TAKING (R67, R72): the head of a port's aperture list is taken. -/
  | apertureAccessTaking (m : Master)
  deriving DecidableEq, Repr

end Sys2Proof
end

