-- ==== Sys2Proof/Decode.lean ====
section
/-! DEFINITION. The command a word of the opcode table spells. spec/opcode_table.json gives none of its rows any bits
(every row has an empty list of fields and no fixed bits): its rows are steps of the part, not encodings. So no word
spells a command. The words the part itself decodes stand in Machine/Formats.lean and Machine/Operands.lean. -/

namespace Sys2Proof

/-- The command whose bits are `w`, among the rows for which the opcode table gives bits: there are none. -/
def decodeTableWord (_nbits _w : Nat) : Option Instr := none

end Sys2Proof
end

