-- ==== Sys2Proof/Config.lean ====
section
/-! DEFINITION. What the part fixes: the counts of its tables and lists, the page size, the control aperture and the
fields of the identification word. -/

namespace Sys2Proof.Config

/-- Bytes of a page (section 0.6). -/
def pageBytes : Nat := 4096

/-- The last fabric page a window may cover (R12). -/
def lastWindowablePage : Nat := 65519

/-- The first fabric page of the control aperture (R66). -/
def aperturePage : Nat := 65520

/-- The fabric address of aperture offset 0 (R66, R167). -/
def apertureBase : Nat := 0xFFF0000

/-- The entries a target queue holds at most (R48). -/
def queueDepth : Nat := 8

/-- The largest quota (R154): the number of slots. -/
def maxQuota : Nat := 32

/-- Fabric cycles of one unit of the divider (R105). -/
def cyclesPerDivision : Nat := 256

/-- Identification word, bits 7:4 (R167). -/
def revision : Nat := 1

/-- Identification word, bits 15:8 (R167). -/
def slotCount : Nat := 0x20

/-- Identification word, bits 31:16 (R167). -/
def partCode : Nat := 0x0632

end Sys2Proof.Config
end

