-- ==== Sys2Proof/Machine/Types.lean ====
section
/-! DEFINITION. The enumerations and records of the part, in the manual's own names: access kinds and forms, fault kinds
and response codes, window, master, target and mailbox states, notices, and the records of the window table, the master
table, the ports, the mailboxes, the engine, the targets and the lease timer. -/

namespace Sys2Proof.Machine

/-- READ, WRITE or FETCH (section 0.5). -/
inductive AccessKind where
  | read | write | fetch
  deriving DecidableEq, Repr

/-- The six forms of an access (R30). -/
inductive Form where
  | single1 | single2 | single4 | burst2 | burst4 | burst8
  deriving DecidableEq, Repr

/-- The eleven fault kinds (R132). -/
inductive FaultKind where
  | noWindow | notMember | rights | lapsed | retiring | targetDown | targetSilent | targetError | badAccess
  | apertureFormat | mailboxBusy
  deriving DecidableEq, Repr

/-- The response codes (R170): OK, a fault kind, HELD or DETACHED. -/
inductive RespCode where
  | ok
  | fault (k : FaultKind)
  | held
  | detached
  deriving DecidableEq, Repr

/-- Window states (R2). -/
inductive WinState where
  | free | active | offered | lapsed | draining
  deriving DecidableEq, Repr

/-- Layers of windows: PRIVATE and COMMON (R2). -/
inductive Layer where
  | priv | common
  deriving DecidableEq, Repr

/-- The retirement notice of a window, and the cause of WINDOW_RETIRED (R2, R143). -/
inductive RetireNotice where
  | none | drainDone | graceExpired
  deriving DecidableEq, Repr

/-- The six causes of a retirement (section 1.7, R17). -/
inductive RetireCause where
  | release | masterReset | revoke | detach | leaseZero | graceZero
  deriving DecidableEq, Repr

/-- Master states (R154). -/
inductive MasterState where
  | online | held | offline
  deriving DecidableEq, Repr

/-- Fault policies (R138). -/
inductive FaultPolicy where
  | report | hold
  deriving DecidableEq, Repr

/-- Reset dispositions (R163). -/
inductive Disposition where
  | release | keep
  deriving DecidableEq, Repr

/-- Target states (R46). -/
inductive TargetState where
  | offline | online | failed
  deriving DecidableEq, Repr

/-- Target widths: 8, 16 or 32 bits (R46). -/
inductive Width where
  | w8 | w16 | w32
  deriving DecidableEq, Repr

/-- Phases of a target port (R48). -/
inductive Phase where
  | idle | beat | recovery
  deriving DecidableEq, Repr

/-- Mailbox states (R68). -/
inductive MailboxState where
  | empty | submitted | executing | done
  deriving DecidableEq, Repr

/-- The eleven notice kinds (R143). -/
inductive NoticeKind where
  | fault | targetFailed | windowRevoked | leaseLapsed | leaseWarning | offerReceived | offerWithdrawn | offerAccepted
  | offerDeclined | offerExpired | windowRetired
  deriving DecidableEq, Repr

/-- The twenty-nine commands the engine knows (R76). -/
inductive CmdId where
  | claim | claimCommon | extend | release | revoke | setMembers | query | queryAddress | findHeld | renew
  | setLeaseClock | offer | withdraw | accept | decline | readFault | clearFault | releaseHold | takeNotice
  | setNoticeOrder | setNoticeEnable | setMaster | queryMaster | detach | attach | setTarget | targetOnline
  | targetOffline | queryTarget
  deriving DecidableEq, Repr

/-- The result codes (R78). -/
inductive ResultCode where
  | done | doneLate | doneDraining | empty | badCommand | badParam | notSupervisor | detached | staleHandle | notHolder
  | wrongLayer | wrongState | quota | noSlot | overlapFabric | overlapTarget | outOfTarget | aperture | notOffered
  | recipient | self | targetBusy
  deriving DecidableEq, Repr

/-- A handle: a slot and a generation (R5). -/
structure Handle where
  slot : Slot
  gen : Gen
  deriving DecidableEq, Repr

/-- A pending offer: the recipient and the ticks remaining (R120). -/
structure Offer where
  recipient : Master
  ticks : Nat
  deriving DecidableEq, Repr

/-- A window record (R2). The slot is its position in the table. `rights` has bit 0 READ, bit 1 WRITE, bit 2 FETCH, and
`members` has bit n set when Mn is a member (R166). -/
structure Window where
  gen : Gen
  state : WinState
  layer : Layer
  holder : Master
  members : Option (BitVec 6)
  fabricBase : Nat
  length : Nat
  target : Target
  targetBase : Nat
  rights : BitVec 3
  leasePeriod : Option Nat
  leaseRemaining : Nat
  warned : Bool
  graceRemaining : Nat
  offer : Option Offer
  retireNotice : RetireNotice
  inFlight : Nat
  deriving DecidableEq, Repr

/-- The lease timer (R105). -/
structure LeaseTimer where
  divider : Nat
  margin : Nat
  grace : Nat
  cycles : Nat
  deriving DecidableEq, Repr

/-- What steps 2 to 6 of resolution decide (section 2.3): no window, a refusal by a deciding window with its fault kind,
or a hit through a window. -/
inductive Decision where
  | noWindow
  | refused (k : FaultKind) (i : Slot)
  | hit (i : Slot)
  deriving DecidableEq, Repr

/-- A fault report (R132). An access kind or form that the request named none of is absent: UNKNOWN. -/
structure FaultReport where
  kind : FaultKind
  addr : FabricAddr
  accessKind : Option AccessKind
  form : Option Form
  handle : Option Handle
  target : Option Target
  deriving DecidableEq, Repr

/-- A fault record that is not empty (R133). -/
structure FaultRecord where
  first : FaultReport
  latest : FaultKind
  count : Nat
  deriving DecidableEq, Repr

/-- A notice (R143). `key` is the slot of a slot-keyed kind, the number of the target of TARGET_FAILED, and 0 for FAULT;
`gen` is 0 for a kind that carries no generation, and `cause` is NONE for every kind but WINDOW_RETIRED (R170). -/
structure Notice where
  kind : NoticeKind
  key : Slot
  gen : Gen
  cause : RetireNotice
  deriving DecidableEq, Repr

/-- A master record (R154). An absent fault record is an empty one (R133). The pending notice set is held as a list in
one order (see `insertNotice`); `enables` has bit k - 1 set when kind k is enabled (R168). -/
structure MasterRecord where
  state : MasterState
  policy : FaultPolicy
  disposition : Disposition
  quota : Nat
  faultRecord : Option FaultRecord
  notices : List Notice
  order : List NoticeKind
  enables : BitVec 11
  deriving DecidableEq, Repr

/-- A tag of a master port: free, or in use by one outstanding access, whose drop mark it carries (R25, R43;
log 9). -/
inductive TagState where
  | free
  | inUse (dropped : Bool)
  deriving DecidableEq, Repr

/-- The data lines of a response (R39, R40): zero; the 1, 2 or 4 bytes a single access addressed, the first on the
fabric byte position given and the others on the positions after it (R53), the other positions being left open
(log 12); or words in ascending address order (a burst, or the word of an aperture read). -/
inductive ReadData where
  | zero
  | bytes (position : Fin 4) (bs : List Byte)
  | words (ws : List Word)
  deriving DecidableEq, Repr

/-- A response (R40). -/
structure Response where
  tag : Tag
  code : RespCode
  data : ReadData
  deriving DecidableEq, Repr

/-- A resolved access (R34). `wdata` holds the bytes of a WRITE in ascending address order. Its drop mark stands in the
tag table of its port. -/
structure Resolved where
  master : Master
  tag : Tag
  kind : AccessKind
  form : Form
  addr : FabricAddr
  target : Target
  targetAddr : Nat
  slot : Slot
  gen : Gen
  wdata : List Byte
  deriving DecidableEq, Repr

/-- A master port (R25). `lineAsserted` is the level of its master reset line, and `returned` the response last put on
its response channel. DESIGN CHOICE, unsafe: none at reset (log 11). -/
structure MasterPort where
  tags : Vector TagState 4
  unresolved : List Request
  aperture : List Request
  waiting : Vector (List Resolved) 4
  responses : List Response
  reopenWait : Bool
  returned : Option Response
  lineAsserted : Bool
  deriving DecidableEq, Repr

/-- The parameter words P0 to P3 (R66). -/
structure Params where
  p0 : Word
  p1 : Word
  p2 : Word
  p3 : Word
  deriving DecidableEq, Repr

/-- Result words 0 to 2 (R66). -/
structure ResultWords where
  w0 : Word
  w1 : Word
  w2 : Word
  deriving DecidableEq, Repr

/-- A mailbox (R68). -/
structure Mailbox where
  state : MailboxState
  live : Params
  command : Option (BitVec 8)
  captured : Params
  result : Option ResultCode
  words : ResultWords
  deriving DecidableEq, Repr

/-- The command in execution (R74). -/
structure Execution where
  master : Master
  command : BitVec 8
  params : Params
  orphan : Bool
  deriving DecidableEq, Repr

/-- The command engine: IDLE when no command is in execution, BUSY otherwise, and the grant pointer (R74). -/
structure Engine where
  execution : Option Execution
  pointer : Master
  deriving DecidableEq, Repr

/-- The five settings of a target record (R46, R61). -/
structure TargetSettings where
  width : Width
  size : Nat
  wait : Nat
  recovery : Nat
  limit : Nat
  deriving DecidableEq, Repr

/-- The settings an access captures when it starts (R51). -/
structure Captured where
  width : Width
  wait : Nat
  recovery : Nat
  limit : Nat
  deriving DecidableEq, Repr

/-- The access in progress: the access, the number of beats already ended, and the read bytes assembled (R48). -/
structure Running where
  access : Resolved
  beat : Nat
  bytes : List Byte
  deriving DecidableEq, Repr

/-- The input lines of a target port (section 0.9). -/
structure TargetLines where
  ready : Bool
  error : Bool
  data : Word
  deriving DecidableEq, Repr

/-- A target port with its target record (R46, R48). `waitDone` says that the wait count of the running beat has ended
and ready is awaited, and `count` is the running count of wait, ready-low or recovery cycles (R54, R55). `captured`
stays until the recovery after the access's last beat is counted out (R51). `lanesDropped` says that a device reset dropped
the lane enables (R65) and no beat has begun since (log 27). -/
structure TargetPort where
  state : TargetState
  settings : TargetSettings
  queue : List Resolved
  running : Option Running
  captured : Option Captured
  phase : Phase
  waitDone : Bool
  count : Nat
  pointer : Master
  lanesDropped : Bool
  lines : TargetLines
  deriving DecidableEq, Repr

end Sys2Proof.Machine
end

