-- ==== Sys2Proof/Machine/ResetValues.lean ====
section
/-! DEFINITION. The values the spec states for reset, record by record. -/

namespace Sys2Proof.Machine

/-- A FREE slot of a given generation: every other field cleared (R4). DEDUCED, safe: a cleared layer, holder and target
are the fields' zero codes, PRIVATE, M0 and T0; no command returns them (log 17). -/
def freeWindow (g : Gen) : Window :=
  { gen := g, state := .free, layer := .priv, holder := 0, members := none, fabricBase := 0, length := 0, target := 0,
    targetBase := 0, rights := 0#3, leasePeriod := none, leaseRemaining := 0, warned := false, graceRemaining := 0,
    offer := none, retireNotice := .none, inFlight := 0 }

/-- The reset window of slot 0 (R22). -/
def resetWindow : Window :=
  { gen := 0#4, state := .active, layer := .common, holder := 0, members := some 0b111111#6, fabricBase := 0,
    length := 256, target := 0, targetBase := 0, rights := 0b101#3, leasePeriod := none, leaseRemaining := 0,
    warned := false, graceRemaining := 0, offer := none, retireNotice := .none, inFlight := 0 }

/-- The window table after device reset (R22). -/
def resetWindows : Vector Window 32 :=
  (Vector.replicate 32 (freeWindow 0#4)).set 0 resetWindow

/-- The lease timer after device reset (R105). -/
def resetTimer : LeaseTimer :=
  { divider := 99, margin := 16, grace := 8, cycles := 0 }

/-- The default notice order: kind numbers 1 to 11 ascending (R143). -/
def defaultOrder : List NoticeKind :=
  [.fault, .targetFailed, .windowRevoked, .leaseLapsed, .leaseWarning, .offerReceived, .offerWithdrawn, .offerAccepted,
   .offerDeclined, .offerExpired, .windowRetired]

/-- All eleven kinds enabled (R143). -/
def allEnables : BitVec 11 := 0b11111111111#11

/-- A master record after device reset, with its quota (R154). -/
def resetMaster (quota : Nat) : MasterRecord :=
  { state := .online, policy := .report, disposition := .release, quota := quota, faultRecord := none, notices := [],
    order := defaultOrder, enables := allEnables }

/-- The master table after device reset: quota 32 for M0 and 8 for M1 to M5 (R154). -/
def resetMasters : Vector MasterRecord 6 :=
  (Vector.replicate 6 (resetMaster 8)).set 0 (resetMaster 32)

/-- A master port after device reset, its master reset line at a given level (R25, R45). -/
def resetPort (lineAsserted : Bool) : MasterPort :=
  { tags := Vector.replicate 4 .free, unresolved := [], aperture := [], waiting := Vector.replicate 4 [],
    responses := [], reopenWait := false, returned := none, lineAsserted := lineAsserted }

/-- Four zero parameter words (R68). -/
def zeroParams : Params := { p0 := 0#32, p1 := 0#32, p2 := 0#32, p3 := 0#32 }

/-- Three zero result words (R68, R78). -/
def zeroWords : ResultWords := { w0 := 0#32, w1 := 0#32, w2 := 0#32 }

/-- A mailbox after device reset and after a master reset (R68). -/
def resetMailbox : Mailbox :=
  { state := .empty, live := zeroParams, command := none, captured := zeroParams, result := none, words := zeroWords }

/-- The command engine after device reset (R74). -/
def resetEngine : Engine := { execution := none, pointer := 5 }

/-- The target record and state of T0 and of T1 to T3 after device reset (R46). -/
def resetTargetState (t : Target) : TargetState := if t = 0 then .online else .offline

/-- The settings of T0 and of T1 to T3 after device reset (R46). -/
def resetSettings (t : Target) : TargetSettings :=
  if t = 0 then { width := .w8, size := 4096, wait := 15, recovery := 3, limit := 1023 }
  else { width := .w32, size := 0, wait := 8, recovery := 2, limit := 255 }

/-- The input lines of a target port as `State.reset` has them. DESIGN CHOICE, unsafe: they are driven from outside and
the spec gives no level (log 7). -/
def resetLines : TargetLines := { ready := false, error := false, data := 0#32 }

/-- A target port after device reset, its strobes and lane enables dropped and its input lines at given levels (R46, R48,
R65). DESIGN CHOICE, unsafe: the
running count is 0 and no wait count has ended (log 16). -/
def resetTarget (t : Target) (lines : TargetLines) : TargetPort :=
  { state := resetTargetState t, settings := resetSettings t, queue := [], running := none, captured := none,
    phase := .idle, waitDone := false, count := 0, pointer := 5, lanesDropped := true, lines := lines }

end Sys2Proof.Machine
end

