-- ==== Sys2Proof/Machine/State.lean ====
section
/-! DEFINITION. The state of the part, all of it, and the state right after reset. -/

namespace Sys2Proof.Machine

/-- The events that stop the machine. The spec names none: every fault of the spec is an answer to one master and an
entry in its fault record (R132), after which the part goes on. So no meaning raises a `Fault`, which is safe. -/
inductive Fault where
  deriving DecidableEq, Repr

/-- The commands without a meaning. -/
inductive Refusal where
  /-- Raised by `exec` for a row that has no meaning yet, and by nothing else; safe. No arm raises it now. -/
  | notModelled (mnemonic : String)
  deriving DecidableEq, Repr

/-- The whole state of the part (section 0.2), and the queue of the commands that are waiting. -/
structure State where
  windows : Vector Window 32
  masters : Vector MasterRecord 6
  ports : Vector MasterPort 6
  mailboxes : Vector Mailbox 6
  targets : Vector TargetPort 4
  engine : Engine
  timer : LeaseTimer
  resolverPointer : Master
  drst : Bool
  pending : List Instr
  deriving DecidableEq, Repr

/-- The part right after the deassertion of the device reset input, every line of the outside at rest and no command
waiting. DESIGN CHOICE, unsafe: DRST and the master reset lines are deasserted (log 8). -/
def State.reset : State :=
  { windows := resetWindows
    masters := resetMasters
    ports := Vector.replicate 6 (resetPort false)
    mailboxes := Vector.replicate 6 resetMailbox
    targets := Vector.ofFn fun t => resetTarget t resetLines
    engine := resetEngine
    timer := resetTimer
    resolverPointer := 5
    drst := false
    pending := [] }

/-- What a command's meaning answers. -/
abbrev Result := Host.Outcome State Fault Refusal

end Sys2Proof.Machine
end

