-- ==== Sys2Proof/Machine/Access.lean ====
section
/-! DEFINITION. Reading and replacing one record of the state: a window, a master record, a master port, a mailbox, a
target port; the lists of all slots, masters, targets and tags; and the round robin the resolver, the admission arbiters
and the command engine share. -/

namespace Sys2Proof.Machine

/-- The window record of a slot (R1). -/
def State.window (s : State) (i : Slot) : Window := s.windows[i]

/-- The state with the window record of one slot replaced. -/
def State.setWindow (s : State) (i : Slot) (w : Window) : State := { s with windows := s.windows.set i w }

/-- The record of a master (R154). -/
def State.master (s : State) (m : Master) : MasterRecord := s.masters[m]

/-- The state with the record of one master replaced. -/
def State.setMaster (s : State) (m : Master) (r : MasterRecord) : State := { s with masters := s.masters.set m r }

/-- The port of a master (R25). -/
def State.port (s : State) (m : Master) : MasterPort := s.ports[m]

/-- The state with one master port replaced. -/
def State.setPort (s : State) (m : Master) (p : MasterPort) : State := { s with ports := s.ports.set m p }

/-- The mailbox of a master (R68). -/
def State.mailbox (s : State) (m : Master) : Mailbox := s.mailboxes[m]

/-- The state with one mailbox replaced. -/
def State.setMailbox (s : State) (m : Master) (b : Mailbox) : State := { s with mailboxes := s.mailboxes.set m b }

/-- The port of a target (R46). -/
def State.target (s : State) (t : Target) : TargetPort := s.targets[t]

/-- The state with one target port replaced. -/
def State.setTarget (s : State) (t : Target) (p : TargetPort) : State := { s with targets := s.targets.set t p }

/-- All slots, lowest first. -/
def allSlots : List Slot := List.finRange 32

/-- All masters, M0 first. -/
def allMasters : List Master := List.finRange 6

/-- All targets, T0 first. -/
def allTargets : List Target := List.finRange 4

/-- All tags. -/
def allTags : List Tag := List.finRange 4

/-- The six masters in the order M0, M1, …, M5, M0 starting with the one after `last` (R28, R49, R74). -/
def roundRobin (last : Master) : List Master := (List.finRange 6).map fun i => last + 1 + i

/-- The first master after `last`, in round-robin order, for which `wants` holds. -/
def nextInTurn (last : Master) (wants : Master → Bool) : Option Master := (roundRobin last).find? wants

/-- A window in any state other than FREE is live (section 0.5). -/
def Window.live (w : Window) : Bool := w.state != .free

/-- The fabric pages of a window: fabric base to fabric base + length - 1 (R2). -/
def Window.covers (w : Window) (page : Nat) : Bool :=
  decide (w.fabricBase ≤ page) && decide (page < w.fabricBase + w.length)

/-- Do the pages `a` to `a + n - 1` and `b` to `b + k - 1` have a page in common? -/
def rangesMeet (a n b k : Nat) : Bool := decide (max a b < min (a + n) (b + k))

/-- The outstanding count of a port: the number of tags in use (R25; log 10). -/
def MasterPort.outstanding (p : MasterPort) : Nat := allTags.countP fun t => p.tags[t] != .free

/-- Is a tag free (R26)? -/
def MasterPort.tagFree (p : MasterPort) (t : Tag) : Bool := p.tags[t] == .free

/-- Does the outstanding access of a tag carry a drop mark (R43)? -/
def MasterPort.dropped (p : MasterPort) (t : Tag) : Bool := p.tags[t] == .inUse true

/-- The port with a tag set. -/
def MasterPort.setTag (p : MasterPort) (t : Tag) (v : TagState) : MasterPort := { p with tags := p.tags.set t v }

/-- The waiting list of a port for a target (R25). -/
def MasterPort.waitingFor (p : MasterPort) (t : Target) : List Resolved := p.waiting[t]

/-- The port with one waiting list replaced. -/
def MasterPort.setWaiting (p : MasterPort) (t : Target) (l : List Resolved) : MasterPort :=
  { p with waiting := p.waiting.set t l }

/-- The number of live private windows a master holds (R86). -/
def State.heldPrivate (s : State) (m : Master) : Nat :=
  allSlots.countP fun i =>
    (s.window i).live && (s.window i).layer == .priv && (s.window i).holder == m

end Sys2Proof.Machine
end

