-- ==== Sys2Proof/Machine/Formats.lean ====
section
/-! DEFINITION. The encodings and the word layouts of the control aperture and of the fabric data lines (R166, R167,
R169, R170, R53): codes, fields, handle, status, identification, notice and fault record words, and bytes of words. -/

namespace Sys2Proof.Machine

/-! ### Fields -/

/-- A value of `width` bits placed at bit `lo` of a word. -/
def field (width lo : Nat) (v : Nat) : Word := ((BitVec.ofNat width v).setWidth 32) <<< lo

/-- Bits `hi` to `lo` of a word. -/
def bits (w : Word) (hi lo : Nat) : Nat := (w.extractLsb' lo (hi + 1 - lo)).toNat

/-- Has a word no bit set outside `mask`? -/
def onlyBits (w mask : Word) : Bool := w &&& ~~~mask == 0#32

/-- One bit as a number. -/
def bit (b : Bool) : Nat := if b then 1 else 0

/-! ### Codes (R166, R167, R170) -/

/-- Access kind codes. -/
def AccessKind.code : AccessKind → Nat
  | .read => 0
  | .write => 1
  | .fetch => 2

/-- The access kind a code names; 3 names none. -/
def AccessKind.ofCode : Nat → Option AccessKind
  | 0 => some .read
  | 1 => some .write
  | 2 => some .fetch
  | _ => none

/-- Access kind of a fault record word, absent being UNKNOWN. -/
def accessKindCode : Option AccessKind → Nat
  | some k => k.code
  | none => 3

/-- Form codes. -/
def Form.code : Form → Nat
  | .single1 => 0
  | .single2 => 1
  | .single4 => 2
  | .burst2 => 3
  | .burst4 => 4
  | .burst8 => 5

/-- The form a code names; 6 and 7 name none (R30). -/
def Form.ofCode : Nat → Option Form
  | 0 => some .single1
  | 1 => some .single2
  | 2 => some .single4
  | 3 => some .burst2
  | 4 => some .burst4
  | 5 => some .burst8
  | _ => none

/-- Form of a fault record word, absent being UNKNOWN. -/
def formCode : Option Form → Nat
  | some f => f.code
  | none => 7

/-- Fault kind codes (R132). -/
def FaultKind.code : FaultKind → Nat
  | .noWindow => 1
  | .notMember => 2
  | .rights => 3
  | .lapsed => 4
  | .retiring => 5
  | .targetDown => 6
  | .targetSilent => 7
  | .targetError => 8
  | .badAccess => 9
  | .apertureFormat => 10
  | .mailboxBusy => 11

/-- The 4-bit response code (R170). -/
def RespCode.code : RespCode → Nat
  | .ok => 0
  | .fault k => k.code
  | .held => 14
  | .detached => 15

/-- Window state codes; a FREE slot is returned by no command. -/
def WinState.code : WinState → Nat
  | .free => 0
  | .active => 1
  | .offered => 2
  | .lapsed => 3
  | .draining => 4

/-- Layer codes. -/
def Layer.code : Layer → Nat
  | .priv => 0
  | .common => 1

/-- Retirement cause codes. -/
def RetireNotice.code : RetireNotice → Nat
  | .none => 0
  | .drainDone => 1
  | .graceExpired => 2

/-- Mailbox state codes. -/
def MailboxState.code : MailboxState → Nat
  | .empty => 0
  | .submitted => 1
  | .executing => 2
  | .done => 3

/-- Master state codes. -/
def MasterState.code : MasterState → Nat
  | .online => 0
  | .held => 1
  | .offline => 2

/-- Target state codes. -/
def TargetState.code : TargetState → Nat
  | .offline => 0
  | .online => 1
  | .failed => 2

/-- Width codes. -/
def Width.code : Width → Nat
  | .w8 => 0
  | .w16 => 1
  | .w32 => 2

/-- The width a code names; 3 names none. -/
def Width.ofCode : Nat → Option Width
  | 0 => some .w8
  | 1 => some .w16
  | 2 => some .w32
  | _ => none

/-- Fault policy codes. -/
def FaultPolicy.code : FaultPolicy → Nat
  | .report => 0
  | .hold => 1

/-- Reset disposition codes. -/
def Disposition.code : Disposition → Nat
  | .release => 0
  | .keep => 1

/-- Notice kind numbers (R143). -/
def NoticeKind.number : NoticeKind → Nat
  | .fault => 1
  | .targetFailed => 2
  | .windowRevoked => 3
  | .leaseLapsed => 4
  | .leaseWarning => 5
  | .offerReceived => 6
  | .offerWithdrawn => 7
  | .offerAccepted => 8
  | .offerDeclined => 9
  | .offerExpired => 10
  | .windowRetired => 11

/-- The notice kind a number names. -/
def NoticeKind.ofNumber : Nat → Option NoticeKind
  | 1 => some .fault
  | 2 => some .targetFailed
  | 3 => some .windowRevoked
  | 4 => some .leaseLapsed
  | 5 => some .leaseWarning
  | 6 => some .offerReceived
  | 7 => some .offerWithdrawn
  | 8 => some .offerAccepted
  | 9 => some .offerDeclined
  | 10 => some .offerExpired
  | 11 => some .windowRetired
  | _ => none

/-- Result codes of the status word (R167). -/
def ResultCode.code : ResultCode → Nat
  | .done => 1
  | .doneLate => 2
  | .doneDraining => 3
  | .empty => 4
  | .badCommand => 5
  | .badParam => 6
  | .notSupervisor => 7
  | .detached => 8
  | .staleHandle => 9
  | .notHolder => 10
  | .wrongLayer => 11
  | .wrongState => 12
  | .quota => 13
  | .noSlot => 14
  | .overlapFabric => 15
  | .overlapTarget => 16
  | .outOfTarget => 17
  | .aperture => 18
  | .notOffered => 19
  | .recipient => 20
  | .self => 21
  | .targetBusy => 22

/-- Command identities (R167). -/
def CmdId.code : CmdId → Nat
  | .claim => 1
  | .claimCommon => 2
  | .extend => 3
  | .release => 4
  | .revoke => 5
  | .setMembers => 6
  | .query => 7
  | .queryAddress => 8
  | .findHeld => 9
  | .renew => 10
  | .setLeaseClock => 11
  | .offer => 12
  | .withdraw => 13
  | .accept => 14
  | .decline => 15
  | .readFault => 16
  | .clearFault => 17
  | .releaseHold => 18
  | .takeNotice => 19
  | .setNoticeOrder => 20
  | .setNoticeEnable => 21
  | .setMaster => 22
  | .queryMaster => 23
  | .detach => 24
  | .attach => 25
  | .setTarget => 26
  | .targetOnline => 27
  | .targetOffline => 28
  | .queryTarget => 29

/-- The command an identity names; 0 and 30 to 255 name none (R167). -/
def CmdId.ofCode : Nat → Option CmdId
  | 1 => some .claim
  | 2 => some .claimCommon
  | 3 => some .extend
  | 4 => some .release
  | 5 => some .revoke
  | 6 => some .setMembers
  | 7 => some .query
  | 8 => some .queryAddress
  | 9 => some .findHeld
  | 10 => some .renew
  | 11 => some .setLeaseClock
  | 12 => some .offer
  | 13 => some .withdraw
  | 14 => some .accept
  | 15 => some .decline
  | 16 => some .readFault
  | 17 => some .clearFault
  | 18 => some .releaseHold
  | 19 => some .takeNotice
  | 20 => some .setNoticeOrder
  | 21 => some .setNoticeEnable
  | 22 => some .setMaster
  | 23 => some .queryMaster
  | 24 => some .detach
  | 25 => some .attach
  | 26 => some .setTarget
  | 27 => some .targetOnline
  | 28 => some .targetOffline
  | 29 => some .queryTarget
  | _ => none

/-! ### Sizes of forms (R30) and of widths -/

/-- The access kind a request names, if any (R30). -/
def reqKind (r : Request) : Option AccessKind := AccessKind.ofCode r.kind.toNat

/-- The form a request names, if any (R30). -/
def reqForm (r : Request) : Option Form := Form.ofCode r.size.toNat

/-- Bytes of a form; an access is aligned to them (R30). -/
def Form.size : Form → Nat
  | .single1 => 1
  | .single2 => 2
  | .single4 => 4
  | .burst2 => 8
  | .burst4 => 16
  | .burst8 => 32

/-- Is a form a burst? -/
def Form.isBurst : Form → Bool
  | .single1 => false
  | .single2 => false
  | .single4 => false
  | .burst2 => true
  | .burst4 => true
  | .burst8 => true

/-- Bytes of a target word: width / 8 (R52). -/
def Width.bytes : Width → Nat
  | .w8 => 1
  | .w16 => 2
  | .w32 => 4

/-- The page of a fabric address (section 0.6). -/
def pageOf (a : FabricAddr) : Nat := a.toNat / Config.pageBytes

/-- The offset in page of a fabric address (section 0.6). -/
def offsetOf (a : FabricAddr) : Nat := a.toNat % Config.pageBytes

/-! ### Bytes of words (R53) -/

/-- The byte on lane `k`: data lines 8 k to 8 k + 7 (R53). -/
def laneByte (w : Word) (k : Nat) : Byte := w.extractLsb' (8 * k) 8

/-- A byte put on lane `k`, the other lanes zero (R53). -/
def onLane (b : Byte) (k : Nat) : Word := (b.setWidth 32) <<< (8 * k)

/-- Four bytes on lanes 0 to 3. DEDUCED, unsafe: fabric byte position f mod 4 is lane f mod 4 (log 12). -/
def wordOfBytes (b0 b1 b2 b3 : Byte) : Word := onLane b0 0 ||| onLane b1 1 ||| onLane b2 2 ||| onLane b3 3

/-- Bytes in ascending address order as words, four at a time. -/
def wordsOfBytes : List Byte → List Word
  | b0 :: b1 :: b2 :: b3 :: rest => wordOfBytes b0 b1 b2 b3 :: wordsOfBytes rest
  | _ => []

/-- The byte of a request's write data at the address `request address + i`: it stands on fabric byte position f mod 4
of its word (R53). A word the lines do not carry is read as zero, which no well-formed request meets (log 20). -/
def requestByte (r : Request) (i : Nat) : Byte :=
  laneByte (r.wdata.getD ((r.addr.toNat % 4 + i) / 4) 0#32) ((r.addr.toNat % 4 + i) % 4)

/-- The bytes of a write request of a form, in ascending address order (R34). -/
def requestBytes (r : Request) (f : Form) : List Byte := (List.range f.size).map (requestByte r)

/-- The fabric byte position of a fabric address: the byte at address f stands on position f mod 4 (R53). -/
def bytePosition (a : FabricAddr) : Fin 4 := Fin.ofNat 4 a.toNat

/-- The read data a completed read puts on its response: the bytes a single access addressed, from the fabric byte
position of its address on, or the words of a burst (R40, R53). -/
def readData (a : Resolved) (bs : List Byte) : ReadData :=
  if a.form.isBurst then .words (wordsOfBytes bs) else .bytes (bytePosition a.addr) bs

/-! ### Words (R166, R167, R169, R170) -/

/-- The handle layout (R166). -/
def handleWord (h : Handle) : Word := field 5 0 h.slot.val ||| field 4 8 h.gen.toNat

/-- The handle a handle word names (R166). -/
def handleOf (w : Word) : Handle := { slot := Fin.ofNat 32 (bits w 4 0), gen := w.extractLsb' 8 4 }

/-- The handle of the window now in a slot. -/
def State.handle (s : State) (i : Slot) : Handle := { slot := i, gen := (s.window i).gen }

/-- The status word (R72, R167). -/
def statusWord (b : Mailbox) (r : MasterRecord) : Word :=
  field 2 0 b.state.code ||| field 2 2 r.state.code |||
  field 5 4 (if b.state = .done then (b.result.map ResultCode.code).getD 0 else 0) |||
  field 8 9 ((b.command.map BitVec.toNat).getD 0) ||| field 9 17 r.notices.length

/-- The identification word read through a port (R66, R167). -/
def identificationWord (m : Master) : Word :=
  field 3 0 m.val ||| field 4 4 Config.revision ||| field 8 8 Config.slotCount ||| field 16 16 Config.partCode

/-- The notice word (R170). -/
def noticeWord (n : Notice) : Word :=
  field 5 0 n.key.val ||| field 4 8 n.gen.toNat ||| field 4 16 n.kind.number ||| field 2 20 n.cause.code

/-- The three fault record words; an empty record gives three zero words (R135, R170). -/
def faultWords : Option FaultRecord → ResultWords
  | none => zeroWords
  | some f =>
    { w0 := field 28 0 f.first.addr.toNat
      w1 := (match f.first.handle with
             | some h => handleWord h ||| field 1 12 1
             | none => 0#32) |||
            (match f.first.target with
             | some t => field 2 13 t.val ||| field 1 15 1
             | none => 0#32) |||
            field 4 16 f.first.kind.code ||| field 2 20 (accessKindCode f.first.accessKind) |||
            field 3 22 (formCode f.first.form)
      w2 := field 4 0 f.latest.code ||| field 8 8 f.count }

/-- The window summary of QUERY (R99, R169). -/
def windowSummary (i : Slot) (w : Window) : Word :=
  handleWord { slot := i, gen := w.gen } ||| field 3 12 w.state.code ||| field 1 15 w.layer.code |||
  field 3 16 w.holder.val ||| field 2 19 w.target.val ||| field 3 21 w.rights.toNat ||| field 1 24 (bit w.warned) |||
  field 2 25 w.retireNotice.code |||
  (match w.offer with
   | some o => field 1 27 1 ||| field 3 28 o.recipient.val
   | none => 0#32)

/-- Result words with the second and third zero. -/
def words1 (a : Word) : ResultWords := { w0 := a, w1 := 0#32, w2 := 0#32 }

/-- Result words with the third zero. -/
def words2 (a b : Word) : ResultWords := { w0 := a, w1 := b, w2 := 0#32 }

/-- The wait, recovery and response limit as P2 of SET_TARGET carries them (R168, R169). -/
def timingWord (c : TargetSettings) : Word := field 5 0 c.wait ||| field 4 8 c.recovery ||| field 10 16 c.limit

/-- The quota, fault policy and reset disposition of a master record (R168, R169). -/
def masterWord (r : MasterRecord) : Word :=
  field 6 0 r.quota ||| field 1 8 r.policy.code ||| field 1 9 r.disposition.code

/-- Positions of a notice order as nibbles, the first in bits 3:0 (R168). -/
def nibbles : List NoticeKind → Nat → Word
  | [], _ => 0#32
  | k :: ks, lo => field 4 lo k.number ||| nibbles ks (lo + 4)

/-- Positions 1 to 8 of a notice order (R168). -/
def orderWord0 (o : List NoticeKind) : Word := nibbles (o.take 8) 0

/-- Positions 9 to 11 of a notice order (R168). -/
def orderWord1 (o : List NoticeKind) : Word := nibbles ((o.drop 8).take 3) 0

end Sys2Proof.Machine
end

