-- ==== Sys2Proof/Machine/Flags.lean ====
section
/-! DEFINITION. The status and event flags of a master: its pending notice set, its fault record, and its attention
line. Chapters 8 and 9. -/

namespace Sys2Proof.Machine

/-! ### The pending notice set (R143 to R147) -/

/-- The place of a kind and key in the one order the list of a set is held in: rising kind number, then rising key. -/
def noticeRank (k : NoticeKind) (key : Slot) : Nat := k.number * 32 + key.val

/-- The rank of a notice: equal ranks are equal kinds and keys. -/
def Notice.rank (n : Notice) : Nat := noticeRank n.kind n.key

/-- Raising a notice in a set: it enters, or replaces the pending notice of its kind and key (R144). The list
stays in the one order of `noticeRank` (log 24). -/
def insertNotice (n : Notice) : List Notice → List Notice
  | [] => [n]
  | x :: xs =>
    if n.rank < x.rank then n :: x :: xs
    else if n.rank = x.rank then n :: xs
    else x :: insertNotice n xs

/-- Removing the notice of a kind and key, whatever generation it carries (R145). -/
def dropNotice (k : NoticeKind) (key : Slot) (l : List Notice) : List Notice :=
  l.filter fun n => !(n.kind == k && n.key == key)

/-- The notice chosen from a set: of the kind that stands first in the order, the one with the lowest key (R147). The
list of a set holds the notices of one kind with keys rising. -/
def chooseNotice (order : List NoticeKind) (l : List Notice) : Option Notice :=
  order.findSome? fun k => l.find? fun n => n.kind == k

/-- Is a kind among a set of enables (R150, R168)? -/
def kindEnabled (enables : BitVec 11) (k : NoticeKind) : Bool := enables.getLsbD (k.number - 1)

/-- The number of notices of a set whose kinds are enabled (R148). -/
def enabledCount (enables : BitVec 11) (l : List Notice) : Nat := l.countP fun n => kindEnabled enables n.kind

/-- Attention output ATTNm: high while the set holds a notice of an enabled kind (R151). -/
def State.attn (s : State) (m : Master) : Bool :=
  (s.master m).notices.any fun n => kindEnabled (s.master m).enables n.kind

/-- Raising a notice to a master (R144). -/
def raiseNotice (m : Master) (n : Notice) (s : State) : State :=
  s.setMaster m { s.master m with notices := insertNotice n (s.master m).notices }

/-- Removing the notice of a kind and key from a master's set (R145). -/
def removeNotice (m : Master) (k : NoticeKind) (key : Slot) (s : State) : State :=
  s.setMaster m { s.master m with notices := dropNotice k key (s.master m).notices }

/-- A slot-keyed notice without a cause (R143). -/
def slotNotice (k : NoticeKind) (i : Slot) (g : Gen) : Notice := { kind := k, key := i, gen := g, cause := .none }

/-- The notice FAULT (R143). -/
def faultNotice : Notice := { kind := .fault, key := 0, gen := 0#4, cause := .none }

/-- The key of a target in TARGET_FAILED (R143, R170). -/
def targetKey (t : Target) : Slot := Fin.ofNat 32 t.val

/-- The notice TARGET_FAILED (R143). -/
def targetFailedNotice (t : Target) : Notice :=
  { kind := .targetFailed, key := targetKey t, gen := 0#4, cause := .none }

/-- The notice WINDOW_RETIRED with its cause (R143). -/
def retiredNotice (i : Slot) (g : Gen) (cause : RetireNotice) : Notice :=
  { kind := .windowRetired, key := i, gen := g, cause := cause }

/-! ### The fault record (R132 to R134, R138) -/

/-- Does a fault kind trigger a hold (R132)? -/
def FaultKind.holds : FaultKind → Bool
  | .noWindow => true
  | .notMember => true
  | .rights => true
  | .lapsed => true
  | .retiring => true
  | .targetDown => false
  | .targetSilent => false
  | .targetError => false
  | .badAccess => true
  | .apertureFormat => false
  | .mailboxBusy => false

/-- Entering a report in a fault record (R134). -/
def enterRecord (old : Option FaultRecord) (r : FaultReport) : FaultRecord :=
  match old with
  | none => { first := r, latest := r.kind, count := 1 }
  | some f => { f with latest := r.kind, count := if f.count < 255 then f.count + 1 else f.count }

/-- The master table takes a fault report: the record, FAULT, and the hold (R134, R138). -/
def enterReport (m : Master) (r : FaultReport) (s : State) : State :=
  s.setMaster m
    { s.master m with
      faultRecord := some (enterRecord (s.master m).faultRecord r)
      notices := insertNotice faultNotice (s.master m).notices
      state := if r.kind.holds && (s.master m).policy == .hold then .held else (s.master m).state }

end Sys2Proof.Machine
end

