-- ==== Sys2Proof/Machine/Ops.lean ====
section
/-! DEFINITION. The operations the commands share: a response falling due, the in-flight count, a slot becoming FREE,
the ends of an offer, retirement, the decision of an access, the end of an access at its target, and the completion of a
command by the engine. -/

namespace Sys2Proof.Machine

/-! ### Responses (R39, R43, R44) -/

/-- The response of an access falls due, with its fault report if it has one. Without a drop mark it joins the response
list and the report is entered. With a drop mark the response is dropped, the report discarded and the tag freed; the
port leaves reopen wait when that brings the outstanding count to 0. -/
def answer (m : Master) (r : Response) (report : Option FaultReport) (s : State) : State :=
  if (s.port m).dropped r.tag then
    let p := (s.port m).setTag r.tag .free
    s.setPort m { p with reopenWait := p.reopenWait && p.outstanding != 0 }
  else
    let s := s.setPort m { s.port m with responses := (s.port m).responses ++ [r] }
    match report with
    | some f => enterReport m f s
    | none => s

/-! ### Slots becoming FREE and the in-flight count (R14, R19, R20) -/

/-- A slot becomes FREE (R20): WINDOW_RETIRED with a cause is raised to the holder unless the cause is NONE or the holder
is OFFLINE (R17), the generation advances, and every other field is cleared. -/
def freeSlot (i : Slot) (cause : RetireNotice) (s : State) : State :=
  let w := s.window i
  let s := s.setWindow i (freeWindow (w.gen + 1))
  if cause == .none || (s.master w.holder).state == .offline then s
  else raiseNotice w.holder (retiredNotice i w.gen cause) s

/-- An access counted on a slot completes (R14): its in-flight count falls by one, and a DRAINING window reaching 0
becomes FREE in the same change (R19). -/
def countOut (i : Slot) (s : State) : State :=
  let w := s.window i
  if w.state == .draining && w.inFlight - 1 == 0 then freeSlot i w.retireNotice s
  else s.setWindow i { w with inFlight := w.inFlight - 1 }

/-! ### Offers (R123, R124, R129) -/

/-- The part of an end of an offer that the recipient sees: the offer field is cleared, the recipient's OFFER_RECEIVED
removed and OFFER_WITHDRAWN raised to it (R16 step 1, R110, R113, R123, R129). Without an offer nothing happens. -/
def withdrawOffer (i : Slot) (s : State) : State :=
  let w := s.window i
  match w.offer with
  | none => s
  | some o =>
    raiseNotice o.recipient (slotNotice .offerWithdrawn i w.gen)
      (removeNotice o.recipient .offerReceived i (s.setWindow i { w with offer := none }))

/-- An offer ends as declined (R124, R129): the window returns to ACTIVE, the recipient's OFFER_RECEIVED is removed and
OFFER_DECLINED raised to the holder. Without an offer nothing happens. -/
def declineOffer (i : Slot) (s : State) : State :=
  let w := s.window i
  match w.offer with
  | none => s
  | some o =>
    raiseNotice w.holder (slotNotice .offerDeclined i w.gen)
      (removeNotice o.recipient .offerReceived i (s.setWindow i { w with offer := none, state := .active }))

/-- The window of a slot returns to ACTIVE (R113, R123, R129). -/
def reactivate (i : Slot) (s : State) : State := s.setWindow i { s.window i with state := .active }

/-- Does a window carry an offer naming a master? -/
def Window.offeredTo (w : Window) (m : Master) : Bool :=
  match w.offer with
  | some o => o.recipient == m
  | none => false

/-- Is a slot a private window of a master in ACTIVE, OFFERED or LAPSED (R159, R163)? -/
def Window.retirableOf (w : Window) (m : Master) : Bool :=
  w.layer == .priv && w.holder == m && (w.state == .active || w.state == .offered || w.state == .lapsed)

/-! ### Retirement (R16, R17) -/

/-- The retirement notice a cause sets in a window that drains (R17). -/
def RetireCause.drainNotice : RetireCause → RetireNotice
  | .release => .drainDone
  | .masterReset => .drainDone
  | .revoke => .none
  | .detach => .none
  | .leaseZero => .graceExpired
  | .graceZero => .graceExpired

/-- The cause of the WINDOW_RETIRED raised at FREE without draining (R17, last column). -/
def RetireCause.freeNotice : RetireCause → RetireNotice
  | .release => .none
  | .masterReset => .none
  | .revoke => .none
  | .detach => .none
  | .leaseZero => .graceExpired
  | .graceZero => .graceExpired

/-- Does a cause raise WINDOW_REVOKED to a holder at retirement (R17)? -/
def RetireCause.revokes : RetireCause → Master → Bool
  | .release, _ => false
  | .masterReset, _ => false
  | .revoke, holder => holder != 0
  | .detach, _ => true
  | .leaseZero, _ => false
  | .graceZero, _ => false

/-- Retirement of the window of a slot (R16): an offer is withdrawn, the countdowns are cleared, the notice of R17 is
raised, and the window becomes FREE or enters DRAINING by its in-flight count. -/
def retire (cause : RetireCause) (i : Slot) (s : State) : State :=
  let s := withdrawOffer i s
  let w := { s.window i with leaseRemaining := 0, warned := false, graceRemaining := 0 }
  let s := s.setWindow i w
  let s := if cause.revokes w.holder then raiseNotice w.holder (slotNotice .windowRevoked i w.gen) s else s
  if w.inFlight == 0 then freeSlot i cause.freeNotice s
  else s.setWindow i { w with state := .draining, retireNotice := cause.drainNotice }

/-! ### The decision of an access (R9, R31 to R34) -/

/-- Are the access kind and the rights of a window in accord (R32)? -/
def Window.admits (w : Window) (k : AccessKind) : Bool := w.rights.getLsbD k.code

/-- Is a master in the member set of a window (R8)? -/
def Window.hasMember (w : Window) (m : Master) : Bool :=
  match w.members with
  | some set => set.getLsbD m.val
  | none => false

/-- The live private window of a master that covers a page (R31); there is at most one (R11; log 24). -/
def State.privateOver (s : State) (m : Master) (page : Nat) : Option Slot :=
  allSlots.find? fun i =>
    (s.window i).live && (s.window i).layer == .priv && (s.window i).holder == m && (s.window i).covers page

/-- The live common window that covers a page (R31); there is at most one (R11). -/
def State.commonOver (s : State) (page : Nat) : Option Slot :=
  allSlots.find? fun i => (s.window i).live && (s.window i).layer == .common && (s.window i).covers page

/-- Steps 4 to 6 of resolution at the deciding window (R32, R33). -/
def decideAt (s : State) (i : Slot) (k : AccessKind) : Decision :=
  if !(s.window i).admits k then .refused .rights i
  else if (s.window i).state == .lapsed then .refused .lapsed i
  else if (s.window i).state == .draining then .refused .retiring i
  else if (s.target (s.window i).target).state != .online then .refused .targetDown i
  else .hit i

/-- Steps 2 to 6 of resolution for an access of a master to a page (R31 to R33). -/
def decideAccess (s : State) (m : Master) (page : Nat) (k : AccessKind) : Decision :=
  match s.privateOver m page with
  | some i => decideAt s i k
  | none =>
    match s.commonOver page with
    | none => .noWindow
    | some i => if (s.window i).hasMember m then decideAt s i k else .refused .notMember i

/-- The target address a window translates a fabric address to (R34). -/
def Window.translate (w : Window) (a : FabricAddr) : Nat :=
  (w.targetBase + (pageOf a - w.fabricBase)) * Config.pageBytes + offsetOf a

/-! ### The end of an access at its target (R56 to R60) -/

/-- The fault report of a resolved access (R60). -/
def reportOf (a : Resolved) (k : FaultKind) : FaultReport :=
  { kind := k, addr := a.addr, accessKind := some a.kind, form := some a.form,
    handle := some { slot := a.slot, gen := a.gen }, target := some a.target }

/-- A counted access ends with a fault kind and zero data (R57, R58, R59): its count is decremented, its response falls
due and its report goes to the master table. -/
def endFaulted (k : FaultKind) (a : Resolved) (s : State) : State :=
  answer a.master { tag := a.tag, code := .fault k, data := .zero } (some (reportOf a k)) (countOut a.slot s)

/-- A counted access completes OK (R56). -/
def endOk (a : Resolved) (data : ReadData) (s : State) : State :=
  answer a.master { tag := a.tag, code := .ok, data := data } none (countOut a.slot s)

/-- The accesses waiting for a target in the master ports, MP0 first, each port in acceptance order (R38). -/
def State.waitingAt (s : State) (t : Target) : List Resolved :=
  allMasters.flatMap fun m => (s.port m).waitingFor t

/-- The queue and the waiting lists of a target are emptied and every access in them is answered TARGET_DOWN (R38,
R59). -/
def answerDown (t : Target) (s : State) : State :=
  let ends := (s.target t).queue ++ s.waitingAt t
  let s := s.setTarget t { s.target t with queue := [] }
  let s := allMasters.foldl (fun s m => s.setPort m ((s.port m).setWaiting t [])) s
  ends.foldl (fun s a => endFaulted .targetDown a s) s

/-! ### The completion of a command (R75, R77, R78, R80) -/

/-- What a command's checks and effect come to: the state after the effect, the result code and the result words. -/
structure Completion where
  state : State
  code : ResultCode
  words : ResultWords
  deriving DecidableEq, Repr

/-- A refusal: nothing is applied and the result words stay zero (R78). -/
def refusal (c : ResultCode) (s : State) : Completion := { state := s, code := c, words := zeroWords }

/-- The code of the first check that fails, in order (R77). -/
def firstFailure : List (Bool × ResultCode) → Option ResultCode
  | [] => none
  | (passes, code) :: rest => if passes then firstFailure rest else some code

/-- A command applies its effect when every check passes, and is refused with the code of the first that fails (R77,
R78). -/
def checked (checks : List (Bool × ResultCode)) (s : State) (effect : Completion) : Completion :=
  match firstFailure checks with
  | some c => refusal c s
  | none => effect

/-- The end of a completion (R78): the engine becomes IDLE, and the result and result words are written and the mailbox
goes to DONE, except for an orphaned command (R80). -/
def finish (x : Execution) (c : Completion) : State :=
  let s := { c.state with engine := { c.state.engine with execution := none } }
  if x.orphan then s
  else s.setMailbox x.master
    { s.mailbox x.master with state := .done, result := some c.code, words := c.words }

/-- The completion of the command in execution, when it is the one named (R75). When the engine is IDLE or executes
another command, no completion of this command takes place (logs 3 and 15). -/
def completeCommand (id : CmdId) (body : Master → Params → State → Completion) (s : State) : State :=
  match s.engine.execution with
  | none => s
  | some x =>
    if CmdId.ofCode x.command.toNat = some id then finish x (body x.master x.params s) else s

/-- Step 2 of the generic order: the asking master is M0 (R77). -/
def supervisorCheck (m : Master) : Bool × ResultCode := (m == 0, .notSupervisor)

/-- Is a handle current: its slot live at its generation (R5)? -/
def State.current (s : State) (h : Handle) : Bool := (s.window h.slot).live && (s.window h.slot).gen == h.gen

end Sys2Proof.Machine
end

