-- ==== Sys2Proof/Machine/Operands.lean ====
section
/-! DEFINITION. The operands of the commands: the fields of the captured parameter words with their ranges, the whole of
step 3 of the generic check order (R77, R82, R168). A bit that belongs to no field, or a field outside its range, gives
BAD_PARAM (R166). -/

namespace Sys2Proof.Machine

/-! ### Handles, masters and targets -/

/-- P0 as a handle: slot in 4:0, generation in 11:8 (R168). -/
def handleInRange (w : Word) : Bool := onlyBits w 0x00000F1F#32

/-- P0 as a master number: bits 2:0, at most 5 (R168). -/
def masterInRange (w : Word) : Bool := onlyBits w 0x00000007#32 && decide (bits w 2 0 ≤ 5)

/-- The master a parameter word names. -/
def masterParam (w : Word) : Master := Fin.ofNat 6 (bits w 2 0)

/-- P0 as a target number: bits 1:0 (R168). -/
def targetInRange (w : Word) : Bool := onlyBits w 0x00000003#32

/-- The target a parameter word names. -/
def targetParam (w : Word) : Target := Fin.ofNat 4 (bits w 1 0)

/-! ### CLAIM and CLAIM_COMMON (R82, R168) -/

/-- Fabric base: P0 bits 15:0. -/
def claimBase (p : Params) : Nat := bits p.p0 15 0

/-- Length: P1 bits 15:0. -/
def claimLength (p : Params) : Nat := bits p.p1 15 0

/-- Target base: P2 bits 15:0. -/
def claimTargetBase (p : Params) : Nat := bits p.p2 15 0

/-- Target: P2 bits 17:16. -/
def claimTarget (p : Params) : Target := Fin.ofNat 4 (bits p.p2 17 16)

/-- Rights: P2 bits 22:20. -/
def claimRights (p : Params) : BitVec 3 := p.p2.extractLsb' 20 3

/-- Lease period: P3 bits 15:0, 0 encoding absent (R82). -/
def claimLease (p : Params) : Nat := bits p.p3 15 0

/-- Lease period as the window record holds it. -/
def claimPeriod (p : Params) : Option Nat := if claimLease p = 0 then none else some (claimLease p)

/-- Member set of CLAIM_COMMON: P3 bits 21:16. -/
def claimMembers (p : Params) : BitVec 6 := p.p3.extractLsb' 16 6

/-- P0 to P2 of both claims: fields in range, the length not 0. -/
def rangeWordsInRange (p : Params) : Bool :=
  onlyBits p.p0 0x0000FFFF#32 && onlyBits p.p1 0x0000FFFF#32 && decide (1 ≤ claimLength p) &&
    onlyBits p.p2 0x0073FFFF#32

/-- The parameters of CLAIM: bits 21:16 of P3 belong to no field. -/
def claimInRange (p : Params) : Bool := rangeWordsInRange p && onlyBits p.p3 0x0000FFFF#32

/-- The parameters of CLAIM_COMMON. -/
def claimCommonInRange (p : Params) : Bool := rangeWordsInRange p && onlyBits p.p3 0x003FFFFF#32

/-! ### The other window commands (R82, R168) -/

/-- Pages to add: P1 bits 15:0. -/
def extendPages (p : Params) : Nat := bits p.p1 15 0

/-- The parameters of EXTEND: pages to add not 0. -/
def extendInRange (p : Params) : Bool :=
  handleInRange p.p0 && onlyBits p.p1 0x0000FFFF#32 && decide (1 ≤ extendPages p)

/-- The member set of SET_MEMBERS: P1 bits 5:0. -/
def membersParam (p : Params) : BitVec 6 := p.p1.extractLsb' 0 6

/-- The parameters of SET_MEMBERS. -/
def setMembersInRange (p : Params) : Bool := handleInRange p.p0 && onlyBits p.p1 0x0000003F#32

/-- The parameters of QUERY: the view is bit 0 of P1. -/
def queryInRange (p : Params) : Bool := handleInRange p.p0 && onlyBits p.p1 0x00000001#32

/-- The fabric address of QUERY_ADDRESS: P0 bits 27:0. -/
def addressParam (p : Params) : FabricAddr := p.p0.extractLsb' 0 28

/-- The parameters of QUERY_ADDRESS: an address below the control aperture, a listed access kind. -/
def queryAddressInRange (p : Params) : Bool :=
  onlyBits p.p0 0x0FFFFFFF#32 && decide (p.p0.toNat < Config.apertureBase) && onlyBits p.p1 0x00000003#32 &&
    (AccessKind.ofCode (bits p.p1 1 0)).isSome

/-- From slot: P0 bits 4:0. -/
def fromSlotInRange (p : Params) : Bool := onlyBits p.p0 0x0000001F#32

/-! ### Leases, offers, notices, masters, targets (R168) -/

/-- The parameters of SET_LEASE_CLOCK: divider P0 11:0, margin P1 7:0, grace P1 15:8. -/
def leaseClockInRange (p : Params) : Bool := onlyBits p.p0 0x00000FFF#32 && onlyBits p.p1 0x0000FFFF#32

/-- The recipient of OFFER: P1 bits 2:0. -/
def recipientParam (p : Params) : Master := Fin.ofNat 6 (bits p.p1 2 0)

/-- The ticks of OFFER: P1 bits 15:8. -/
def offerTicks (p : Params) : Nat := bits p.p1 15 8

/-- The parameters of OFFER: recipient 0 to 5, ticks 1 to 255. -/
def offerInRange (p : Params) : Bool :=
  handleInRange p.p0 && onlyBits p.p1 0x0000FF07#32 && decide (bits p.p1 2 0 ≤ 5) && decide (1 ≤ offerTicks p)

/-- The eleven positions of SET_NOTICE_ORDER, first to last: positions 1 to 8 are the nibbles of P0, 9 to 11 the low
three nibbles of P1. -/
def orderNumbers (p : Params) : List Nat :=
  [bits p.p0 3 0, bits p.p0 7 4, bits p.p0 11 8, bits p.p0 15 12, bits p.p0 19 16, bits p.p0 23 20, bits p.p0 27 24,
   bits p.p0 31 28, bits p.p1 3 0, bits p.p1 7 4, bits p.p1 11 8]

/-- The order the positions name. -/
def orderParam (p : Params) : List NoticeKind := (orderNumbers p).filterMap NoticeKind.ofNumber

/-- The parameters of SET_NOTICE_ORDER: every position 1 to 11, no kind number twice, no other bit (R149). -/
def noticeOrderInRange (p : Params) : Bool :=
  onlyBits p.p1 0x00000FFF#32 && (orderNumbers p).all (fun n => decide (1 ≤ n) && decide (n ≤ 11)) &&
    decide (orderNumbers p).Nodup

/-- The parameters of SET_NOTICE_ENABLE (R150). -/
def noticeEnableInRange (p : Params) : Bool := onlyBits p.p0 0x000007FF#32

/-- The enables of SET_NOTICE_ENABLE: P0 bits 10:0. -/
def enablesParam (p : Params) : BitVec 11 := p.p0.extractLsb' 0 11

/-- The quota of SET_MASTER: P1 bits 5:0. -/
def quotaParam (p : Params) : Nat := bits p.p1 5 0

/-- The fault policy of SET_MASTER: P1 bit 8. -/
def policyParam (p : Params) : FaultPolicy := if bits p.p1 8 8 = 0 then .report else .hold

/-- The reset disposition of SET_MASTER: P1 bit 9. -/
def dispositionParam (p : Params) : Disposition := if bits p.p1 9 9 = 0 then .release else .keep

/-- The parameters of SET_MASTER: quota at most 32, and HOLD refused for M0 (R156). -/
def setMasterInRange (p : Params) : Bool :=
  masterInRange p.p0 && onlyBits p.p1 0x0000033F#32 && decide (quotaParam p ≤ Config.maxQuota) &&
    !(bits p.p0 2 0 == 0 && policyParam p == .hold)

/-- The settings of SET_TARGET: size P1 16:0, width P1 21:20, wait P2 4:0, recovery P2 11:8, limit P2 25:16; absent for
a width code that names no width. -/
def settingsParam (p : Params) : Option TargetSettings :=
  (Width.ofCode (bits p.p1 21 20)).map fun w =>
    { width := w, size := bits p.p1 16 0, wait := bits p.p2 4 0, recovery := bits p.p2 11 8, limit := bits p.p2 25 16 }

/-- The parameters of SET_TARGET (R61). -/
def setTargetInRange (p : Params) : Bool :=
  targetInRange p.p0 && onlyBits p.p1 0x0031FFFF#32 && onlyBits p.p2 0x03FF0F1F#32 &&
    match settingsParam p with
    | some c => decide (c.size ≤ 65536) && decide (1 ≤ c.wait) && decide (8 ≤ c.limit)
    | none => false

end Sys2Proof.Machine
end

