-- ==== Sys2Proof/Machine/Claims.lean ====
section
/-! DEFINITION. CLAIM, CLAIM_COMMON, EXTEND, RELEASE, REVOKE, SET_MEMBERS, QUERY, QUERY_ADDRESS and FIND_HELD. Chapter 5.
Every command gives its checks as the list of the generic order (R77) and of its own rule, in order. -/

namespace Sys2Proof.Machine

/-! ### The checks claims and extensions share (R10 to R12, R21) -/

/-- Does a range of fabric pages end below the control aperture (R12)? -/
def belowAperture (base length : Nat) : Bool := decide (base + length ≤ Config.lastWindowablePage + 1)

/-- Does no live private window of a master, other than the slots excepted, cover a page of the range (R11)? -/
def State.privateClear (s : State) (m : Master) (except : Slot → Bool) (base length : Nat) : Bool :=
  allSlots.all fun i =>
    except i || !((s.window i).live && (s.window i).layer == .priv && (s.window i).holder == m &&
      rangesMeet base length (s.window i).fabricBase (s.window i).length)

/-- Does no live common window, other than the slots excepted, cover a page of the range (R11)? -/
def State.commonClear (s : State) (except : Slot → Bool) (base length : Nat) : Bool :=
  allSlots.all fun i =>
    except i || !((s.window i).live && (s.window i).layer == .common &&
      rangesMeet base length (s.window i).fabricBase (s.window i).length)

/-- Does no live window, other than the slots excepted, map a page of the target range (R10)? -/
def State.targetClear (s : State) (except : Slot → Bool) (t : Target) (base length : Nat) : Bool :=
  allSlots.all fun i =>
    except i || !((s.window i).live && (s.window i).target == t &&
      rangesMeet base length (s.window i).targetBase (s.window i).length)

/-- No slot is excepted. -/
def noSlots : Slot → Bool := fun _ => false

/-- The lowest-numbered FREE slot (R21). -/
def State.lowestFree (s : State) : Option Slot := allSlots.find? fun i => (s.window i).state == .free

/-! ### CLAIM (R84, R85) and CLAIM_COMMON (R87) -/

/-- The window a claim writes into a FREE slot of generation `g` (R85, R87). -/
def claimedWindow (g : Gen) (layer : Layer) (holder : Master) (members : Option (BitVec 6)) (p : Params) : Window :=
  { gen := g, state := .active, layer := layer, holder := holder, members := members, fabricBase := claimBase p,
    length := claimLength p, target := claimTarget p, targetBase := claimTargetBase p, rights := claimRights p,
    leasePeriod := claimPeriod p, leaseRemaining := claimLease p, warned := false, graceRemaining := 0, offer := none,
    retireNotice := .none, inFlight := 0 }

/-- The lowest FREE slot takes the window, and the result is DONE with its handle (R85). -/
def claimSlot (layer : Layer) (holder : Master) (members : Option (BitVec 6)) (p : Params) (s : State) : Completion :=
  match s.lowestFree with
  | none => refusal .noSlot s
  | some i =>
    { state := s.setWindow i (claimedWindow (s.window i).gen layer holder members p)
      code := .done
      words := words1 (handleWord (s.handle i)) }

/-- The checks of CLAIM in order (R77, R84). -/
def claimChecks (m : Master) (p : Params) (s : State) : List (Bool × ResultCode) :=
  [ (claimInRange p, .badParam),
    (claimLease p != 0, .badParam),
    (claimRights p != 0#3, .badParam),
    (belowAperture (claimBase p) (claimLength p), .aperture),
    (decide (s.heldPrivate m < (s.master m).quota), .quota),
    (s.privateClear m noSlots (claimBase p) (claimLength p), .overlapFabric),
    (decide (claimTargetBase p + claimLength p ≤ (s.target (claimTarget p)).settings.size), .outOfTarget),
    (s.targetClear noSlots (claimTarget p) (claimTargetBase p) (claimLength p), .overlapTarget),
    (s.lowestFree.isSome, .noSlot) ]

/-- CLAIM (R84, R85). -/
def claimBody (m : Master) (p : Params) (s : State) : Completion :=
  checked (claimChecks m p s) s (claimSlot .priv m none p s)

/-- Completion of CLAIM. -/
def execClaim (s : State) : Result := .next (completeCommand .claim claimBody s)

/-- The checks of CLAIM_COMMON in order (R77, R87). -/
def claimCommonChecks (m : Master) (p : Params) (s : State) : List (Bool × ResultCode) :=
  [ supervisorCheck m,
    (claimCommonInRange p, .badParam),
    (claimRights p != 0#3, .badParam),
    (belowAperture (claimBase p) (claimLength p), .aperture),
    (s.commonClear noSlots (claimBase p) (claimLength p), .overlapFabric),
    (decide (claimTargetBase p + claimLength p ≤ (s.target (claimTarget p)).settings.size), .outOfTarget),
    (s.targetClear noSlots (claimTarget p) (claimTargetBase p) (claimLength p), .overlapTarget),
    (s.lowestFree.isSome, .noSlot) ]

/-- CLAIM_COMMON (R87). -/
def claimCommonBody (m : Master) (p : Params) (s : State) : Completion :=
  checked (claimCommonChecks m p s) s (claimSlot .common 0 (some (claimMembers p)) p s)

/-- Completion of CLAIM_COMMON. -/
def execClaimCommon (s : State) : Result := .next (completeCommand .claimCommon claimCommonBody s)

/-! ### EXTEND (R90, R91) -/

/-- The party permitted to EXTEND: the holder of a private window, M0 for a common one (R90). -/
def mayExtend (w : Window) (m : Master) : Bool :=
  match w.layer with
  | .priv => m == w.holder
  | .common => m == 0

/-- Are the added fabric pages clear of the windows of the same layer (R90 check 2)? -/
def extendClear (s : State) (i : Slot) (base length : Nat) : Bool :=
  match (s.window i).layer with
  | .priv => s.privateClear (s.window i).holder (fun j => j == i) base length
  | .common => s.commonClear (fun j => j == i) base length

/-- The checks of EXTEND in order (R77, R90). -/
def extendChecks (m : Master) (p : Params) (s : State) : List (Bool × ResultCode) :=
  let h := handleOf p.p0
  let w := s.window h.slot
  let n := extendPages p
  [ (extendInRange p, .badParam),
    (s.current h, .staleHandle),
    (mayExtend w m, .notHolder),
    (w.state == .active, .wrongState),
    (belowAperture w.fabricBase (w.length + n), .aperture),
    (extendClear s h.slot (w.fabricBase + w.length) n, .overlapFabric),
    (decide (w.targetBase + w.length + n ≤ (s.target w.target).settings.size), .outOfTarget),
    (s.targetClear (fun j => j == h.slot) w.target (w.targetBase + w.length) n, .overlapTarget) ]

/-- EXTEND (R90, R91): the length grows, every other field stays. -/
def extendBody (m : Master) (p : Params) (s : State) : Completion :=
  let h := handleOf p.p0
  let w := s.window h.slot
  checked (extendChecks m p s) s
    { state := s.setWindow h.slot { w with length := w.length + extendPages p }
      code := .done
      words := words2 (handleWord h) (field 16 0 (w.length + extendPages p)) }

/-- Completion of EXTEND. -/
def execExtend (s : State) : Result := .next (completeCommand .extend extendBody s)

/-! ### RELEASE (R92, R93) and REVOKE (R94) -/

/-- ACTIVE, OFFERED or LAPSED: the states a window can be retired in (R92, R94). -/
def retirableState (w : Window) : Bool := w.state == .active || w.state == .offered || w.state == .lapsed

/-- A retirement by command: DONE when nothing was in flight and DONE_DRAINING otherwise, with the handle and the
in-flight count as they were (R83, R93, R94). -/
def retireByCommand (cause : RetireCause) (h : Handle) (s : State) : Completion :=
  { state := retire cause h.slot s
    code := if (s.window h.slot).inFlight = 0 then .done else .doneDraining
    words := words2 (handleWord h) (field 5 0 (s.window h.slot).inFlight) }

/-- The checks of RELEASE in order (R77, R92). -/
def releaseChecks (m : Master) (p : Params) (s : State) : List (Bool × ResultCode) :=
  let h := handleOf p.p0
  [ (handleInRange p.p0, .badParam),
    (s.current h, .staleHandle),
    ((s.window h.slot).holder == m, .notHolder),
    (retirableState (s.window h.slot), .wrongState) ]

/-- RELEASE (R92, R93). -/
def releaseBody (m : Master) (p : Params) (s : State) : Completion :=
  checked (releaseChecks m p s) s (retireByCommand .release (handleOf p.p0) s)

/-- Completion of RELEASE. -/
def execRelease (s : State) : Result := .next (completeCommand .release releaseBody s)

/-- The checks of REVOKE in order (R77, R94). -/
def revokeChecks (m : Master) (p : Params) (s : State) : List (Bool × ResultCode) :=
  let h := handleOf p.p0
  [ supervisorCheck m,
    (handleInRange p.p0, .badParam),
    (s.current h, .staleHandle),
    (retirableState (s.window h.slot), .wrongState) ]

/-- REVOKE (R94). -/
def revokeBody (m : Master) (p : Params) (s : State) : Completion :=
  checked (revokeChecks m p s) s (retireByCommand .revoke (handleOf p.p0) s)

/-- Completion of REVOKE. -/
def execRevoke (s : State) : Result := .next (completeCommand .revoke revokeBody s)

/-! ### SET_MEMBERS (R96) -/

/-- The checks of SET_MEMBERS in order (R77, R96). -/
def setMembersChecks (m : Master) (p : Params) (s : State) : List (Bool × ResultCode) :=
  let h := handleOf p.p0
  let w := s.window h.slot
  [ supervisorCheck m,
    (setMembersInRange p, .badParam),
    (s.current h, .staleHandle),
    (w.layer == .common, .wrongLayer),
    (w.state == .active || w.state == .lapsed, .wrongState) ]

/-- SET_MEMBERS (R96). -/
def setMembersBody (m : Master) (p : Params) (s : State) : Completion :=
  let h := handleOf p.p0
  let w := s.window h.slot
  checked (setMembersChecks m p s) s
    { state := s.setWindow h.slot { w with members := some (membersParam p) }
      code := .done
      words := words2 (handleWord h) (field 6 0 ((w.members.map BitVec.toNat).getD 0)) }

/-- Completion of SET_MEMBERS. -/
def execSetMembers (s : State) : Result := .next (completeCommand .setMembers setMembersBody s)

/-! ### QUERY (R98, R99) -/

/-- The parties permitted to QUERY (R98): M0, the holder, the recipient of an OFFERED window, a member of a common
one. -/
def mayQuery (w : Window) (m : Master) : Bool :=
  m == 0 || w.holder == m || (w.state == .offered && w.offeredTo m) || (w.layer == .common && w.hasMember m)

/-- The checks of QUERY in order (R77, R98). -/
def queryChecks (m : Master) (p : Params) (s : State) : List (Bool × ResultCode) :=
  let h := handleOf p.p0
  [ (queryInRange p, .badParam),
    (s.current h, .staleHandle),
    (mayQuery (s.window h.slot) m, .notHolder) ]

/-- Result words 1 and 2 of QUERY by view: MAP for bit 0 clear, TIMERS for bit 0 set (R99, R169). -/
def queryWords (i : Slot) (w : Window) (view : Nat) : ResultWords :=
  if view = 0 then
    { w0 := windowSummary i w
      w1 := field 16 0 w.fabricBase ||| field 16 16 w.length
      w2 := field 16 0 w.targetBase ||| field 6 16 ((w.members.map BitVec.toNat).getD 0) }
  else
    { w0 := windowSummary i w
      w1 := field 16 0 (w.leasePeriod.getD 0) ||| field 16 16 w.leaseRemaining
      w2 := field 8 0 w.graceRemaining ||| field 8 8 ((w.offer.map Offer.ticks).getD 0) ||| field 5 16 w.inFlight }

/-- QUERY (R98, R99): nothing changes. -/
def queryBody (m : Master) (p : Params) (s : State) : Completion :=
  let h := handleOf p.p0
  checked (queryChecks m p s) s
    { state := s, code := .done, words := queryWords h.slot (s.window h.slot) (bits p.p1 0 0) }

/-- Completion of QUERY. -/
def execQuery (s : State) : Result := .next (completeCommand .query queryBody s)

/-! ### QUERY_ADDRESS (R100, R101) -/

/-- The result words of a decision (R100, R169). -/
def decisionWords (s : State) (a : FabricAddr) : Decision → ResultWords
  | .noWindow => words1 (field 4 16 FaultKind.noWindow.code)
  | .refused k i =>
    words2 (handleWord (s.handle i) ||| field 4 16 k.code) (field 2 28 (s.window i).target.val)
  | .hit i =>
    words2 (handleWord (s.handle i))
      (field 28 0 ((s.window i).translate a) ||| field 2 28 (s.window i).target.val)

/-- The access kind of QUERY_ADDRESS (R168); a value that names none fails step 3. -/
def queryKind (p : Params) : AccessKind := (AccessKind.ofCode (bits p.p1 1 0)).getD .read

/-- QUERY_ADDRESS (R100): the decision of steps 2 to 6 of resolution for the asking master, without effect. -/
def queryAddressBody (m : Master) (p : Params) (s : State) : Completion :=
  checked [(queryAddressInRange p, .badParam)] s
    { state := s
      code := .done
      words := decisionWords s (addressParam p) (decideAccess s m (pageOf (addressParam p)) (queryKind p)) }

/-- Completion of QUERY_ADDRESS. -/
def execQueryAddress (s : State) : Result := .next (completeCommand .queryAddress queryAddressBody s)

/-! ### FIND_HELD (R102) -/

/-- The first slot from `start` to 31 whose window is live and held by a master (R102). -/
def State.firstHeld (s : State) (m : Master) (start : Nat) : Option Slot :=
  allSlots.find? fun i => decide (start ≤ i.val) && (s.window i).live && (s.window i).holder == m

/-- FIND_HELD (R102). -/
def findHeldBody (m : Master) (p : Params) (s : State) : Completion :=
  checked [(fromSlotInRange p, .badParam)] s
    (match s.firstHeld m (bits p.p0 4 0) with
     | none => { state := s, code := .empty, words := zeroWords }
     | some i =>
       { state := s
         code := .done
         words := words2 (handleWord (s.handle i))
           (field 3 0 (s.window i).state.code ||| field 1 3 (s.window i).layer.code) })

/-- Completion of FIND_HELD. -/
def execFindHeld (s : State) : Result := .next (completeCommand .findHeld findHeldBody s)

end Sys2Proof.Machine
end

