-- ==== Sys2Proof/Machine/CommandUnit.lean ====
section
/-! DEFINITION. The command unit: the takings of aperture accesses (PARAMETER_WRITE, COMMAND_SUBMISSION,
APERTURE_ACCESS_TAKING), ENGINE_GRANT and BAD_COMMAND, and what a master reset does at the mailbox. Chapter 4. -/

namespace Sys2Proof.Machine

/-! ### The check of an aperture access (R66, R67) -/

/-- The words of the control aperture (R66). -/
inductive ApertureWord where
  | command
  | param (n : Fin 4)
  | status
  | result (n : Fin 3)
  | identification
  deriving DecidableEq, Repr

/-- The word an aperture offset serves, if any (R66). -/
def wordAt : Nat → Option ApertureWord
  | 0x00 => some .command
  | 0x04 => some (.param 0)
  | 0x08 => some (.param 1)
  | 0x0C => some (.param 2)
  | 0x10 => some (.param 3)
  | 0x20 => some .status
  | 0x24 => some (.result 0)
  | 0x28 => some (.result 1)
  | 0x2C => some (.result 2)
  | 0x40 => some .identification
  | _ => none

/-- What a well-formed aperture access asks for: a submission, a parameter write of a word, or a read of a word. -/
inductive ApertureAction where
  | submit (w : Word)
  | writeParam (n : Fin 4) (w : Word)
  | read (w : ApertureWord)
  deriving DecidableEq, Repr

/-- The direction check (R67, check 5): a read of the command word and a write of a word that is only read fail. -/
def directed (k : AccessKind) (w : ApertureWord) (data : Word) : Option ApertureAction :=
  match k, w with
  | .write, .command => some (.submit data)
  | .write, .param n => some (.writeParam n data)
  | .write, .status => none
  | .write, .result _ => none
  | .write, .identification => none
  | .read, .command => none
  | .read, .param n => some (.read (.param n))
  | .read, .status => some (.read .status)
  | .read, .result n => some (.read (.result n))
  | .read, .identification => some (.read .identification)
  | .fetch, _ => none

/-- The five checks of R67: kind, form, alignment, offset, direction. An access that fails one asks for nothing. -/
def apertureAction (r : Request) : Option ApertureAction :=
  match reqKind r with
  | none => none
  | some .fetch => none
  | some k =>
    if reqForm r = some .single4 ∧ r.addr.toNat % 4 = 0 then
      match wordAt (r.addr.toNat - Config.apertureBase) with
      | none => none
      | some w => directed k w (r.wdata.getD 0 0#32)
    else none

/-! ### Serving an aperture access -/

/-- The fault report of an aperture access, without handle or target (R67, R71). -/
def apertureReport (r : Request) (k : FaultKind) : FaultReport :=
  { kind := k, addr := r.addr, accessKind := reqKind r, form := reqForm r, handle := none, target := none }

/-- An aperture access is answered with a fault kind (R67, R71). -/
def refuseAperture (m : Master) (r : Request) (k : FaultKind) (s : State) : State :=
  answer m { tag := r.tag, code := .fault k, data := .zero } (some (apertureReport r k)) s

/-- A write is answered OK with zero data (R67). -/
def acknowledge (m : Master) (r : Request) (s : State) : State :=
  answer m { tag := r.tag, code := .ok, data := .zero } none s

/-- A parameter word (R66). -/
def Params.get (p : Params) : Fin 4 → Word
  | 0 => p.p0
  | 1 => p.p1
  | 2 => p.p2
  | 3 => p.p3

/-- The parameter words with one replaced (R70). -/
def Params.set (p : Params) (n : Fin 4) (w : Word) : Params :=
  match n with
  | 0 => { p with p0 := w }
  | 1 => { p with p1 := w }
  | 2 => { p with p2 := w }
  | 3 => { p with p3 := w }

/-- A result word (R66). -/
def ResultWords.get (r : ResultWords) : Fin 3 → Word
  | 0 => r.w0
  | 1 => r.w1
  | 2 => r.w2

/-- The word a read of the aperture returns (R66, R72). -/
def readWord (s : State) (m : Master) : ApertureWord → Word
  | .command => 0#32
  | .param n => (s.mailbox m).live.get n
  | .status => statusWord (s.mailbox m) (s.master m)
  | .result n => (s.mailbox m).words.get n
  | .identification => identificationWord m

/-- Is a captured command one of the two served for an OFFLINE master (R73): READ_FAULT, or QUERY_MASTER with captured
P0 equal to the asking master's number? -/
def servedOffline (m : Master) (command : BitVec 8) (p : Params) : Bool :=
  CmdId.ofCode command.toNat == some .readFault ||
    (CmdId.ofCode command.toNat == some .queryMaster && p.p0 == BitVec.ofNat 32 m.val)

/-- A mailbox with a command captured (R71): the identity in bits 7:0 of the written word and the four live words are
captured, and the result and result words are cleared. -/
def Mailbox.capture (b : Mailbox) (w : Word) : Mailbox :=
  { b with command := some (w.extractLsb' 0 8), captured := b.live, result := none, words := zeroWords }

/-- The mailbox after a submission (R71, R73): SUBMITTED, or DONE with DETACHED for an OFFLINE master whose command is
not one of the two served. -/
def submitted (m : Master) (state : MasterState) (b : Mailbox) (w : Word) : Mailbox :=
  let c := b.capture w
  if state == .offline && !servedOffline m (w.extractLsb' 0 8) b.live then
    { c with state := .done, result := some .detached }
  else { c with state := .submitted }

/-- A submission attempt (R71): refused MAILBOX_BUSY while a command is in hand. -/
def submitCommand (m : Master) (r : Request) (w : Word) (s : State) : State :=
  match (s.mailbox m).state with
  | .submitted => refuseAperture m r .mailboxBusy s
  | .executing => refuseAperture m r .mailboxBusy s
  | .empty => acknowledge m r (s.setMailbox m (submitted m (s.master m).state (s.mailbox m) w))
  | .done => acknowledge m r (s.setMailbox m (submitted m (s.master m).state (s.mailbox m) w))

/-- The state with the head of a port's aperture list removed (R27). -/
def popAperture (m : Master) (rest : List Request) (s : State) : State :=
  s.setPort m { s.port m with aperture := rest }

/-- PARAMETER_WRITE (R70): the command unit takes the head of the port's aperture list when it is a write of a parameter
word. A head that fails R67 is taken and answered APERTURE_FORMAT; a head another row serves is left (log 13). -/
def execParameterWrite (m : Master) (s : State) : Result :=
  .next <|
    match (s.port m).aperture with
    | [] => s
    | r :: rest =>
      match apertureAction r with
      | none => refuseAperture m r .apertureFormat (popAperture m rest s)
      | some (.writeParam n w) =>
        acknowledge m r
          ((popAperture m rest s).setMailbox m { s.mailbox m with live := (s.mailbox m).live.set n w })
      | some (.submit _) => s
      | some (.read _) => s

/-- COMMAND_SUBMISSION (R71): the command unit takes the head of the port's aperture list when it is a write of the
command word. A head that fails R67 is taken and answered APERTURE_FORMAT; a head another row serves is left (log 13). -/
def execCommandSubmission (m : Master) (s : State) : Result :=
  .next <|
    match (s.port m).aperture with
    | [] => s
    | r :: rest =>
      match apertureAction r with
      | none => refuseAperture m r .apertureFormat (popAperture m rest s)
      | some (.submit w) => submitCommand m r w (popAperture m rest s)
      | some (.writeParam _ _) => s
      | some (.read _) => s

/-- APERTURE_ACCESS_TAKING (R67, R72): the command unit takes the head of the port's aperture list when it is a
well-formed read, which is answered OK with the word read, or fails R67, which is answered APERTURE_FORMAT. A write that
another row serves is left (log 13). -/
def execApertureAccessTaking (m : Master) (s : State) : Result :=
  .next <|
    match (s.port m).aperture with
    | [] => s
    | r :: rest =>
      match apertureAction r with
      | none => refuseAperture m r .apertureFormat (popAperture m rest s)
      | some (.read w) =>
        answer m { tag := r.tag, code := .ok, data := .words [readWord s m w] } none (popAperture m rest s)
      | some (.submit _) => s
      | some (.writeParam _ _) => s

/-! ### The engine (R74, R77, R80) -/

/-- ENGINE_GRANT (R74): an IDLE engine takes the first SUBMITTED mailbox after its pointer. An absent captured identity,
which no run reaches, counts as 0 (log 23). -/
def execEngineGrant (s : State) : Result :=
  .next <|
    match s.engine.execution with
    | some _ => s
    | none =>
      match nextInTurn s.engine.pointer fun m => (s.mailbox m).state == .submitted with
      | none => s
      | some m =>
        { s.setMailbox m { s.mailbox m with state := .executing } with
          engine :=
            { execution := some
                { master := m, command := (s.mailbox m).command.getD 0#8, params := (s.mailbox m).captured,
                  orphan := false }
              pointer := m } }

/-- BAD_COMMAND (R77 step 1): the command in execution names no command and is refused. -/
def execBadCommand (s : State) : Result :=
  .next <|
    match s.engine.execution with
    | none => s
    | some x =>
      if CmdId.ofCode x.command.toNat = none then finish x (refusal .badCommand s) else s

/-- The assertion of a master reset line at the command unit (R80): a command in execution is orphaned, and the mailbox
returns to its reset values, which discards a SUBMITTED command. -/
def resetMailboxOf (m : Master) (s : State) : State :=
  let s' := s.setMailbox m resetMailbox
  if (s.mailbox m).state == .executing then
    { s' with
      engine := { s.engine with execution := s.engine.execution.map fun x => { x with orphan := true } } }
  else s'

end Sys2Proof.Machine
end

