-- ==== Sys2Proof/Machine/Faults.lean ====
section
/-! DEFINITION. READ_FAULT, CLEAR_FAULT and RELEASE_HOLD. Chapter 8. -/

namespace Sys2Proof.Machine

/-- READ_FAULT (R135): the asking master's fault record; nothing changes and there is no check. -/
def readFaultBody (m : Master) (_p : Params) (s : State) : Completion :=
  { state := s, code := .done, words := faultWords (s.master m).faultRecord }

/-- Completion of READ_FAULT. -/
def execReadFault (s : State) : Result := .next (completeCommand .readFault readFaultBody s)

/-- CLEAR_FAULT (R136): the record is returned and emptied, and FAULT is removed. -/
def clearFaultBody (m : Master) (_p : Params) (s : State) : Completion :=
  { state := removeNotice m .fault 0 (s.setMaster m { s.master m with faultRecord := none })
    code := .done
    words := faultWords (s.master m).faultRecord }

/-- Completion of CLEAR_FAULT. -/
def execClearFault (s : State) : Result := .next (completeCommand .clearFault clearFaultBody s)

/-- The checks of RELEASE_HOLD in order (R141). -/
def releaseHoldChecks (m : Master) (p : Params) (s : State) : List (Bool × ResultCode) :=
  [ supervisorCheck m,
    (masterInRange p.p0, .badParam),
    ((s.master (masterParam p.p0)).state == .held, .wrongState) ]

/-- RELEASE_HOLD (R141). -/
def releaseHoldBody (m : Master) (p : Params) (s : State) : Completion :=
  let n := masterParam p.p0
  checked (releaseHoldChecks m p s) s
    { state := s.setMaster n { s.master n with state := .online }
      code := .done
      words := words1 (field 3 0 n.val) }

/-- Completion of RELEASE_HOLD. -/
def execReleaseHold (s : State) : Result := .next (completeCommand .releaseHold releaseHoldBody s)

end Sys2Proof.Machine
end

