-- ==== Sys2Proof/Machine/Handoff.lean ====
section
/-! DEFINITION. OFFER, WITHDRAW, ACCEPT and DECLINE. Chapter 7. -/

namespace Sys2Proof.Machine

/-- The checks of OFFER in order (R121). -/
def offerChecks (m : Master) (p : Params) (s : State) : List (Bool × ResultCode) :=
  let h := handleOf p.p0
  let w := s.window h.slot
  [ (offerInRange p, .badParam),
    (s.current h, .staleHandle),
    (w.holder == m, .notHolder),
    (w.state == .active, .wrongState),
    (w.layer == .priv, .wrongLayer),
    (recipientParam p != m, .self),
    ((s.master (recipientParam p)).state != .offline, .recipient) ]

/-- OFFER (R121, R122). -/
def offerBody (m : Master) (p : Params) (s : State) : Completion :=
  let h := handleOf p.p0
  let w := s.window h.slot
  let o : Offer := { recipient := recipientParam p, ticks := offerTicks p }
  checked (offerChecks m p s) s
    { state := raiseNotice o.recipient (slotNotice .offerReceived h.slot w.gen)
        (s.setWindow h.slot { w with state := .offered, offer := some o })
      code := .done
      words := words2 (handleWord h) (field 3 0 o.recipient.val ||| field 8 8 o.ticks) }

/-- Completion of OFFER. -/
def execOffer (s : State) : Result := .next (completeCommand .offer offerBody s)

/-- The checks of WITHDRAW in order (R123). -/
def withdrawChecks (m : Master) (p : Params) (s : State) : List (Bool × ResultCode) :=
  let h := handleOf p.p0
  let w := s.window h.slot
  [ (handleInRange p.p0, .badParam),
    (s.current h, .staleHandle),
    (w.holder == m, .notHolder),
    (w.layer == .priv, .wrongLayer),
    (w.state == .offered, .wrongState) ]

/-- The recipient and the ticks of an offer as WITHDRAW returns them (R123, R169). -/
def offerWord : Option Offer → Word
  | some o => field 3 0 o.recipient.val ||| field 8 8 o.ticks
  | none => 0#32

/-- WITHDRAW (R123). -/
def withdrawBody (m : Master) (p : Params) (s : State) : Completion :=
  let h := handleOf p.p0
  checked (withdrawChecks m p s) s
    { state := reactivate h.slot (withdrawOffer h.slot s)
      code := .done
      words := words2 (handleWord h) (offerWord (s.window h.slot).offer) }

/-- Completion of WITHDRAW. -/
def execWithdraw (s : State) : Result := .next (completeCommand .withdraw withdrawBody s)

/-- The checks of ACCEPT in order (R125). -/
def acceptChecks (m : Master) (p : Params) (s : State) : List (Bool × ResultCode) :=
  let h := handleOf p.p0
  let w := s.window h.slot
  [ (handleInRange p.p0, .badParam),
    (s.current h, .staleHandle),
    (w.offeredTo m, .notOffered),
    (decide (s.heldPrivate m < (s.master m).quota), .quota),
    (s.privateClear m noSlots w.fabricBase w.length, .overlapFabric) ]

/-- The window after ACCEPT (R126 steps 1 to 4). -/
def acceptedWindow (m : Master) (w : Window) : Window :=
  { w with
    holder := m, gen := w.gen + 1, offer := none, state := .active, leaseRemaining := w.leasePeriod.getD 0,
    warned := false }

/-- ACCEPT (R125, R126). -/
def acceptBody (m : Master) (p : Params) (s : State) : Completion :=
  let h := handleOf p.p0
  let w := s.window h.slot
  checked (acceptChecks m p s) s
    { state := raiseNotice w.holder (slotNotice .offerAccepted h.slot w.gen)
        (removeNotice m .offerReceived h.slot (s.setWindow h.slot (acceptedWindow m w)))
      code := .done
      words :=
        { w0 := handleWord { slot := h.slot, gen := w.gen + 1 }
          w1 := field 3 0 w.holder.val ||| field 4 8 w.gen.toNat
          w2 := field 16 0 (w.leasePeriod.getD 0) } }

/-- Completion of ACCEPT. -/
def execAccept (s : State) : Result := .next (completeCommand .accept acceptBody s)

/-- The checks of DECLINE in order (R124). -/
def declineChecks (m : Master) (p : Params) (s : State) : List (Bool × ResultCode) :=
  let h := handleOf p.p0
  [ (handleInRange p.p0, .badParam),
    (s.current h, .staleHandle),
    ((s.window h.slot).offeredTo m, .notOffered) ]

/-- DECLINE (R124). -/
def declineBody (m : Master) (p : Params) (s : State) : Completion :=
  let h := handleOf p.p0
  checked (declineChecks m p s) s
    { state := declineOffer h.slot s
      code := .done
      words := words2 (handleWord h) (field 3 0 (s.window h.slot).holder.val) }

/-- Completion of DECLINE. -/
def execDecline (s : State) : Result := .next (completeCommand .decline declineBody s)

end Sys2Proof.Machine
end

