-- ==== Sys2Proof/Machine/Leases.lean ====
section
/-! DEFINITION. The lease timer and the countdowns: LEASE_TICK, LEASE_EXPIRY, GRACE_EXPIRY, SET_LEASE_CLOCK and RENEW.
Chapter 6. The offer countdown (R113) stands here too, being part of a tick. -/

namespace Sys2Proof.Machine

/-! ### The countdowns of one slot (R109 to R113) -/

/-- The lease runs out with a grace setting above 0: the window lapses (R110). -/
def lapse (i : Slot) (s : State) : State :=
  let s := withdrawOffer i s
  let w := s.window i
  let s := s.setWindow i
    { w with state := .lapsed, leaseRemaining := 0, warned := false, graceRemaining := s.timer.grace }
  raiseNotice w.holder (slotNotice .leaseLapsed i w.gen) (removeNotice w.holder .leaseWarning i s)

/-- The lease runs out: the window lapses, or is retired when the grace setting is 0 (R109 step 3, R110, R111). -/
def leaseRunsOut (i : Slot) (s : State) : State :=
  if s.timer.grace = 0 then retire .leaseZero i (removeNotice (s.window i).holder .leaseWarning i s)
  else lapse i s

/-- The lease countdown of an ACTIVE or OFFERED leased window (R109). -/
def leaseCountdown (i : Slot) (s : State) : State :=
  let w := s.window i
  let n := w.leaseRemaining - 1
  let s := s.setWindow i { w with leaseRemaining := n }
  if n = 0 then leaseRunsOut i s
  else if n ≤ s.timer.margin ∧ w.warned = false then
    raiseNotice w.holder (slotNotice .leaseWarning i w.gen)
      (s.setWindow i { w with leaseRemaining := n, warned := true })
  else s

/-- The offer countdown of an OFFERED window (R113). -/
def offerCountdown (i : Slot) (s : State) : State :=
  let w := s.window i
  match w.offer with
  | none => s
  | some o =>
    if o.ticks - 1 = 0 then
      raiseNotice w.holder (slotNotice .offerExpired i w.gen) (reactivate i (withdrawOffer i s))
    else s.setWindow i { w with offer := some { o with ticks := o.ticks - 1 } }

/-- The grace countdown of a LAPSED window (R112). -/
def graceCountdown (i : Slot) (s : State) : State :=
  let w := s.window i
  let s := s.setWindow i { w with graceRemaining := w.graceRemaining - 1 }
  if w.graceRemaining - 1 = 0 then retire .graceZero i s else s

/-- The countdowns a tick applies to one slot, by its state (R108). -/
def slotTick (i : Slot) (s : State) : State :=
  match (s.window i).state with
  | .free => s
  | .active => if (s.window i).leasePeriod.isSome then leaseCountdown i s else s
  | .offered =>
    let s := if (s.window i).leasePeriod.isSome then leaseCountdown i s else s
    if (s.window i).state == .offered then offerCountdown i s else s
  | .lapsed => graceCountdown i s
  | .draining => s

/-- The tick at the window table: every slot in the one change (R108). -/
def tableTick (s : State) : State := allSlots.foldl (fun s i => slotTick i s) s

/-- LEASE_TICK (R105, R108): the prescaler expires, the cycle count returns to 0 and the tick is delivered. While the
device reset input is asserted no tick is produced (R105). DESIGN CHOICE, unsafe: the row is the expiry itself, so it
delivers its tick and returns the count to 0 at whatever value the cycle count holds (log 26). -/
def execLeaseTick (s : State) : Result :=
  .next (if s.drst then s else tableTick { s with timer := { s.timer with cycles := 0 } })

/-- Does the next lease countdown of a slot bring its lease to 0 (R109)? -/
def leaseDue (w : Window) : Bool :=
  (w.state == .active || w.state == .offered) && w.leasePeriod.isSome && w.leaseRemaining - 1 == 0

/-- LEASE_EXPIRY (R109): the lease countdown of one slot at the tick that brings its lease to 0. A slot whose lease is
not due is left as it is (log 6). -/
def execLeaseExpiry (i : Slot) (s : State) : Result :=
  .next (if !s.drst && leaseDue (s.window i) then leaseCountdown i s else s)

/-- GRACE_EXPIRY (R112): the grace countdown of one slot at the tick that brings its grace to 0. A slot whose grace is
not due is left as it is (log 6). -/
def execGraceExpiry (i : Slot) (s : State) : Result :=
  .next
    (if !s.drst && (s.window i).state == .lapsed && (s.window i).graceRemaining - 1 == 0 then graceCountdown i s
     else s)

/-- OFFER_EXPIRY (R113): the offer countdown of one slot, after its lease countdown has left it OFFERED, at the tick that
brings the offer's ticks to 0. A slot whose offer is not due is left as it is (log 6). -/
def execOfferExpiry (i : Slot) (s : State) : Result :=
  .next
    (if !s.drst && (s.window i).state == .offered &&
        (match (s.window i).offer with
         | some o => o.ticks - 1 == 0
         | none => false)
     then offerCountdown i s else s)

/-- One fabric clock cycle of the prescaler (R105): the cycle count rises by one, and on completing
(divider + 1) × 256 cycles it returns to 0 with a tick. -/
def timerCycle (s : State) : State :=
  if (s.timer.divider + 1) * Config.cyclesPerDivision ≤ s.timer.cycles + 1 then
    tableTick { s with timer := { s.timer with cycles := 0 } }
  else { s with timer := { s.timer with cycles := s.timer.cycles + 1 } }

/-! ### SET_LEASE_CLOCK (R106) -/

/-- The lease timer with the settings a command gives, restarted (R106). -/
def newTimer (p : Params) : LeaseTimer :=
  { divider := bits p.p0 11 0, margin := bits p.p1 7 0, grace := bits p.p1 15 8, cycles := 0 }

/-- SET_LEASE_CLOCK (R106): the replaced settings are returned. -/
def setLeaseClockBody (m : Master) (p : Params) (s : State) : Completion :=
  checked [supervisorCheck m, (leaseClockInRange p, .badParam)] s
    { state := { s with timer := newTimer p }
      code := .done
      words := words2 (field 12 0 s.timer.divider) (field 8 0 s.timer.margin ||| field 8 8 s.timer.grace) }

/-- Completion of SET_LEASE_CLOCK. -/
def execSetLeaseClock (s : State) : Result := .next (completeCommand .setLeaseClock setLeaseClockBody s)

/-! ### RENEW (R114 to R116) -/

/-- The states and layer-independent condition RENEW applies in (R114 step 7). -/
def renewable (w : Window) : Bool :=
  (w.state == .active || w.state == .offered || w.state == .lapsed) && w.leasePeriod.isSome

/-- The checks of RENEW in order (R77, R114). -/
def renewChecks (m : Master) (p : Params) (s : State) : List (Bool × ResultCode) :=
  let h := handleOf p.p0
  [ (handleInRange p.p0, .badParam),
    (s.current h, .staleHandle),
    ((s.window h.slot).holder == m, .notHolder),
    (renewable (s.window h.slot), .wrongState) ]

/-- The effect of RENEW (R115, R116): the lease is restored, warned cleared and LEASE_WARNING removed; a LAPSED window
returns to ACTIVE with LEASE_LAPSED removed instead, and the result is DONE_LATE. -/
def renewEffect (h : Handle) (s : State) : Completion :=
  let w := s.window h.slot
  let late := w.state == .lapsed
  let s' := s.setWindow h.slot
    { w with
      state := if late then .active else w.state
      leaseRemaining := w.leasePeriod.getD 0
      warned := false
      graceRemaining := if late then 0 else w.graceRemaining }
  { state := removeNotice w.holder (if late then .leaseLapsed else .leaseWarning) h.slot s'
    code := if late then .doneLate else .done
    words := { w0 := handleWord h, w1 := field 16 0 w.leaseRemaining, w2 := field 8 0 w.graceRemaining } }

/-- RENEW (R114 to R116). -/
def renewBody (m : Master) (p : Params) (s : State) : Completion :=
  checked (renewChecks m p s) s (renewEffect (handleOf p.p0) s)

/-- Completion of RENEW. -/
def execRenew (s : State) : Result := .next (completeCommand .renew renewBody s)

end Sys2Proof.Machine
end

