-- ==== Sys2Proof/Machine/MasterPorts.lean ====
section
/-! DEFINITION. The master ports: REQUEST_ACCEPTANCE and RESPONSE_RETURN, and what a master reset does at the port.
Chapter 2. -/

namespace Sys2Proof.Machine

/-- May a port accept a request with this tag (R26)? The master reset line and the device reset input are deasserted, the
port is not in reopen wait, and the tag is free. -/
def State.mayAccept (s : State) (m : Master) (t : Tag) : Bool :=
  !s.drst && !(s.port m).lineAsserted && !(s.port m).reopenWait && (s.port m).tagFree t

/-- Is a request routed to the command unit (R27)? -/
def isAperture (r : Request) : Bool := decide (Config.aperturePage ≤ pageOf r.addr)

/-- The port with an accepted request entered at the tail of its list and its tag in use (R26, R27). -/
def MasterPort.accept (p : MasterPort) (r : Request) : MasterPort :=
  let p := p.setTag r.tag (.inUse false)
  if isAperture r then { p with aperture := p.aperture ++ [r] } else { p with unresolved := p.unresolved ++ [r] }

/-- REQUEST_ACCEPTANCE (R26, R27): the request is accepted when the port may accept it. Otherwise it is not accepted and
nothing changes: it stays presented on the master's lines. DESIGN CHOICE, safe: the lines are outside, and the sender
gives the row again when the port may accept (log 4). -/
def execRequestAcceptance (m : Master) (r : Request) (s : State) : Result :=
  .next (if s.mayAccept m r.tag then s.setPort m ((s.port m).accept r) else s)

/-- The port with the head of its response list returned on the response channel and its tag free (R40). -/
def MasterPort.returnHead (p : MasterPort) : MasterPort :=
  match p.responses with
  | [] => p
  | r :: rest => { p.setTag r.tag .free with responses := rest, returned := some r }

/-- RESPONSE_RETURN (R40): nothing is returned from an empty list. -/
def execResponseReturn (m : Master) (s : State) : Result :=
  .next (s.setPort m (s.port m).returnHead)

/-- The tags of the accesses a port discards at the assertion of its master reset line: those on the unresolved and
aperture lists, and those whose response has not been returned (R43). -/
def MasterPort.discarded (p : MasterPort) (t : Tag) : Bool :=
  p.unresolved.any (fun r => r.tag == t) || p.aperture.any (fun r => r.tag == t) ||
    p.responses.any (fun r => r.tag == t)

/-- The assertion of the master reset line at the port (R43): discarded accesses free their tags, every other outstanding
access takes a drop mark, and a reopen wait ends (R44). -/
def MasterPort.assertReset (p : MasterPort) : MasterPort :=
  { p with
    tags := Vector.ofFn fun t =>
      if p.tags[t] == .free || p.discarded t then .free else .inUse true
    unresolved := []
    aperture := []
    responses := []
    reopenWait := false
    lineAsserted := true }

/-- The deassertion of the master reset line at the port (R44): it accepts again at once when nothing is outstanding, and
enters reopen wait otherwise. -/
def MasterPort.deassertReset (p : MasterPort) : MasterPort :=
  { p with lineAsserted := false, reopenWait := p.outstanding != 0 }

end Sys2Proof.Machine
end

