-- ==== Sys2Proof/Machine/Masters.lean ====
section
/-! DEFINITION. SET_MASTER, QUERY_MASTER, DETACH and ATTACH. Chapter 10. -/

namespace Sys2Proof.Machine

/-- SET_MASTER (R156): quota, fault policy and reset disposition are replaced; the replaced ones and the number of live
private windows held are returned. -/
def setMasterBody (m : Master) (p : Params) (s : State) : Completion :=
  let n := masterParam p.p0
  checked [supervisorCheck m, (setMasterInRange p, .badParam)] s
    { state := s.setMaster n
        { s.master n with quota := quotaParam p, policy := policyParam p, disposition := dispositionParam p }
      code := .done
      words := words2 (masterWord (s.master n)) (field 6 0 (s.heldPrivate n)) }

/-- Completion of SET_MASTER. -/
def execSetMaster (s : State) : Result := .next (completeCommand .setMaster setMasterBody s)

/-- The checks of QUERY_MASTER in order: M0 for any master, or a master naming itself (R76, R157). -/
def queryMasterChecks (m : Master) (p : Params) : List (Bool × ResultCode) :=
  [ (masterInRange p.p0, .badParam),
    (m == 0 || m == masterParam p.p0, .notSupervisor) ]

/-- The result words of QUERY_MASTER (R157, R169). -/
def masterWords (s : State) (n : Master) : ResultWords :=
  { w0 := masterWord (s.master n) ||| field 2 12 (s.master n).state.code
    w1 := field 6 0 (s.heldPrivate n) ||| field 3 8 (s.port n).outstanding ||| field 2 12 (s.mailbox n).state.code |||
      field 1 16 (bit (s.port n).lineAsserted) ||| field 1 17 (bit (s.port n).reopenWait)
    w2 := field 9 0 (s.master n).notices.length |||
      field 9 10 (enabledCount (s.master n).enables (s.master n).notices) |||
      field 8 20 (((s.master n).faultRecord.map FaultRecord.count).getD 0) }

/-- QUERY_MASTER (R157): nothing changes. DEDUCED, unsafe: a master asking about itself reads its mailbox as it stands
before this change, EXECUTING (log 14). -/
def queryMasterBody (m : Master) (p : Params) (s : State) : Completion :=
  checked (queryMasterChecks m p) s
    { state := s, code := .done, words := masterWords s (masterParam p.p0) }

/-- Completion of QUERY_MASTER. -/
def execQueryMaster (s : State) : Result := .next (completeCommand .queryMaster queryMasterBody s)

/-! ### DETACH (R159) -/

/-- The offers naming a master end as declined, slot by slot (R129, R159 step 3, R163 step 3; log 19). -/
def declineOffersTo (n : Master) (s : State) : State :=
  allSlots.foldl (fun s i => if (s.window i).offeredTo n then declineOffer i s else s) s

/-- The private windows of a master in ACTIVE, OFFERED or LAPSED are retired, slot by slot (R159 step 4, R163 step 4). -/
def retireWindowsOf (cause : RetireCause) (n : Master) (s : State) : State :=
  allSlots.foldl (fun s i => if (s.window i).retirableOf n then retire cause i s else s) s

/-- The number of offers naming a master. -/
def State.offersTo (s : State) (n : Master) : Nat := allSlots.countP fun i => (s.window i).offeredTo n

/-- The number of windows of a master that a retirement of all of them retires. -/
def State.retirableCount (s : State) (n : Master) : Nat := allSlots.countP fun i => (s.window i).retirableOf n

/-- The number of those that are left DRAINING, having accesses in flight. -/
def State.drainingCount (s : State) (n : Master) : Nat :=
  allSlots.countP fun i => (s.window i).retirableOf n && (s.window i).inFlight != 0

/-- A SUBMITTED mailbox goes to DONE with DETACHED and zero result words (R73, R159 step 5). -/
def detachMailbox (n : Master) (s : State) : State :=
  if (s.mailbox n).state == .submitted then
    s.setMailbox n { s.mailbox n with state := .done, result := some .detached, words := zeroWords }
  else s

/-- The effect of DETACH on the tables and on the mailbox (R159 steps 1 to 5). -/
def detachEffect (n : Master) (s : State) : State :=
  detachMailbox n
    (retireWindowsOf .detach n
      (declineOffersTo n (s.setMaster n { s.master n with state := .offline, notices := [] })))

/-- The checks of DETACH in order (R159). -/
def detachChecks (m : Master) (p : Params) (s : State) : List (Bool × ResultCode) :=
  [ supervisorCheck m,
    (masterInRange p.p0, .badParam),
    ((s.master (masterParam p.p0)).state != .offline, .wrongState),
    (masterParam p.p0 != 0, .self) ]

/-- DETACH (R159). -/
def detachBody (m : Master) (p : Params) (s : State) : Completion :=
  let n := masterParam p.p0
  checked (detachChecks m p s) s
    { state := detachEffect n s
      code := .done
      words := words2 (field 3 0 n.val)
        (field 6 0 (s.retirableCount n) ||| field 6 8 (s.drainingCount n) ||| field 6 16 (s.offersTo n)) }

/-- Completion of DETACH. -/
def execDetach (s : State) : Result := .next (completeCommand .detach detachBody s)

/-! ### ATTACH (R162) -/

/-- The checks of ATTACH in order (R162). -/
def attachChecks (m : Master) (p : Params) (s : State) : List (Bool × ResultCode) :=
  [ supervisorCheck m,
    (masterInRange p.p0, .badParam),
    ((s.master (masterParam p.p0)).state == .offline, .wrongState) ]

/-- ATTACH (R162). -/
def attachBody (m : Master) (p : Params) (s : State) : Completion :=
  let n := masterParam p.p0
  checked (attachChecks m p s) s
    { state := s.setMaster n { s.master n with state := .online, notices := [] }
      code := .done
      words := words1 (field 3 0 n.val) }

/-- Completion of ATTACH. -/
def execAttach (s : State) : Result := .next (completeCommand .attach attachBody s)

end Sys2Proof.Machine
end

