-- ==== Sys2Proof/Machine/Notices.lean ====
section
/-! DEFINITION. TAKE_NOTICE, SET_NOTICE_ORDER and SET_NOTICE_ENABLE. Chapter 9. -/

namespace Sys2Proof.Machine

/-- TAKE_NOTICE (R148): the notice chosen by R147 is removed and returned with the numbers left; EMPTY when there is
none. -/
def takeNoticeBody (m : Master) (_p : Params) (s : State) : Completion :=
  match chooseNotice (s.master m).order (s.master m).notices with
  | none => { state := s, code := .empty, words := zeroWords }
  | some n =>
    let left := dropNotice n.kind n.key (s.master m).notices
    { state := s.setMaster m { s.master m with notices := left }
      code := .done
      words :=
        { w0 := noticeWord n
          w1 := field 9 0 left.length
          w2 := field 9 0 (enabledCount (s.master m).enables left) } }

/-- Completion of TAKE_NOTICE. -/
def execTakeNotice (s : State) : Result := .next (completeCommand .takeNotice takeNoticeBody s)

/-- SET_NOTICE_ORDER (R149): the replaced order is returned. -/
def setNoticeOrderBody (m : Master) (p : Params) (s : State) : Completion :=
  checked [(noticeOrderInRange p, .badParam)] s
    { state := s.setMaster m { s.master m with order := orderParam p }
      code := .done
      words := words2 (orderWord0 (s.master m).order) (orderWord1 (s.master m).order) }

/-- Completion of SET_NOTICE_ORDER. -/
def execSetNoticeOrder (s : State) : Result := .next (completeCommand .setNoticeOrder setNoticeOrderBody s)

/-- SET_NOTICE_ENABLE (R150): the replaced enables are returned. -/
def setNoticeEnableBody (m : Master) (p : Params) (s : State) : Completion :=
  checked [(noticeEnableInRange p, .badParam)] s
    { state := s.setMaster m { s.master m with enables := enablesParam p }
      code := .done
      words := words1 (field 11 0 (s.master m).enables.toNat) }

/-- Completion of SET_NOTICE_ENABLE. -/
def execSetNoticeEnable (s : State) : Result := .next (completeCommand .setNoticeEnable setNoticeEnableBody s)

end Sys2Proof.Machine
end

