-- ==== Sys2Proof/Machine/TargetPorts.lean ====
section
/-! DEFINITION. The target ports: ADMISSION, ACCESS_START, WAIT_COUNT_END, BEAT_END, RECOVERY_END and
RESPONSE_TIMER_EXPIRY, the beats of an access and what the pins carry, and one fabric clock cycle of a target port.
Chapter 3. -/

namespace Sys2Proof.Machine

/-! ### Beats (R52, R53) -/

/-- Bytes of a single access, or of one word of a burst (R52). -/
def Form.unit : Form → Nat
  | .single1 => 1
  | .single2 => 2
  | .single4 => 4
  | .burst2 => 4
  | .burst4 => 4
  | .burst8 => 4

/-- The words of a burst, a single access counting as one (R52). -/
def Form.units : Form → Nat
  | .single1 => 1
  | .single2 => 1
  | .single4 => 1
  | .burst2 => 2
  | .burst4 => 4
  | .burst8 => 8

/-- The number of beats of an access: for each of its units of s bytes, max (1, s × 8 / w) (R52). -/
def beatCount (f : Form) (w : Width) : Nat := f.units * max 1 (f.unit * 8 / (w.bytes * 8))

/-- The bytes one beat covers: at most w / 8 (R52). -/
def beatBytes (f : Form) (w : Width) : Nat := min f.unit w.bytes

/-- The lowest byte address that beat `n` of an access covers (R52). -/
def beatLow (a : Resolved) (w : Width) (n : Nat) : Nat := a.targetAddr + n * beatBytes a.form w

/-- The address driven on beat `n`: rounded down to a multiple of w / 8 (R52). -/
def beatAddress (a : Resolved) (w : Width) (n : Nat) : Nat := beatLow a w n / w.bytes * w.bytes

/-- The bytes beat `n` of a read or fetch takes from the data lines: the byte at address x from lane x mod (w / 8)
(R53). -/
def beatRead (a : Resolved) (w : Width) (n : Nat) (data : Word) : List Byte :=
  (List.range (beatBytes a.form w)).map fun k => laneByte data ((beatLow a w n + k) % w.bytes)

/-- The data lines of beat `n` of a write: its bytes on their lanes, zero on lanes not enabled (R53). -/
def beatWrite (a : Resolved) (w : Width) (n : Nat) : Word :=
  (List.range (beatBytes a.form w)).foldl
    (fun acc k =>
      acc ||| onLane (a.wdata.getD (n * beatBytes a.form w + k) 0#8) ((beatLow a w n + k) % w.bytes)) 0#32

/-- The lane enables of beat `n`: the lanes of the bytes of a write, every lane of the width for a read or fetch
(R53). -/
def beatLanes (a : Resolved) (w : Width) (n : Nat) : BitVec 4 :=
  if a.kind = .write then
    (List.range (beatBytes a.form w)).foldl (fun acc k => acc ||| (1#4 <<< ((beatLow a w n + k) % w.bytes))) 0#4
  else BitVec.ofNat 4 (2 ^ w.bytes - 1)

/-! ### Output pins (R48, R53 to R55, R65) -/

/-- A level on an output pin. `unstated` is a level the manual leaves open (log 25). -/
inductive Level where
  | low
  | high
  | unstated
  deriving DecidableEq, Repr

/-- The level of an active high output. -/
def Level.ofBool (b : Bool) : Level := if b then .high else .low

/-- The output pins of a target port (section 0.9). `none` stands for address or data lines whose levels the manual leaves
open (log 25). -/
structure TargetPins where
  address : Option Nat
  data : Option Word
  lanes : Vector Level 4
  readStrobe : Bool
  writeStrobe : Bool
  deriving DecidableEq, Repr

/-- The width whose lanes a port uses: the captured one while the values of an access are held (R51), else the target
record's. DEDUCED, unsafe (log 27). -/
def TargetPort.laneWidth (p : TargetPort) : Width :=
  match p.captured with
  | some c => c.width
  | none => p.settings.width

/-- The lane enables outside a beat: low on every lane since a device reset, until a beat begins (R65), and always on the
lanes the width does not use (R53). The manual leaves the others open (logs 25 and 27). -/
def TargetPort.restLanes (p : TargetPort) : Vector Level 4 :=
  Vector.ofFn fun l => if p.lanesDropped || decide (p.laneWidth.bytes ≤ l.val) then .low else .unstated

/-- The pins of a port outside a beat: no strobe is asserted (R48, R54, R55, R65; log 18). -/
def TargetPort.restPins (p : TargetPort) : TargetPins :=
  { address := none, data := none, lanes := p.restLanes, readStrobe := false, writeStrobe := false }

/-- The pins during beat `n` of an access: its address, the data of a write, the lane enables, and the strobe of its kind
(R54 step 1). -/
def beatPins (a : Resolved) (w : Width) (n : Nat) : TargetPins :=
  { address := some (beatAddress a w n)
    data := if a.kind = .write then some (beatWrite a w n) else none
    lanes := Vector.ofFn fun l => .ofBool ((beatLanes a w n).getLsbD l.val)
    readStrobe := a.kind != .write
    writeStrobe := a.kind == .write }

/-- The output pins of a target port: those of the running beat in BEAT, and those at rest in IDLE and RECOVERY (R48,
R54, R55, R65; logs 18 and 25). -/
def TargetPort.drive (p : TargetPort) : TargetPins :=
  match p.phase, p.running, p.captured with
  | .beat, some r, some c => beatPins r.access c.width r.beat
  | _, _, _ => p.restPins

/-! ### Admission and start (R49, R51) -/

/-- ADMISSION (R49): the first offering port after the admission pointer has the head of its waiting list moved to the
tail of the queue. Without room, an ONLINE target or an offer nothing is admitted. -/
def execAdmission (t : Target) (s : State) : Result :=
  .next <|
    if (s.target t).state == .online && decide ((s.target t).queue.length < Config.queueDepth) then
      match nextInTurn (s.target t).pointer fun m => !((s.port m).waitingFor t).isEmpty with
      | none => s
      | some m =>
        match (s.port m).waitingFor t with
        | [] => s
        | a :: rest =>
          (s.setPort m ((s.port m).setWaiting t rest)).setTarget t
            { s.target t with queue := (s.target t).queue ++ [a], pointer := m }
    else s

/-- The settings an access captures (R51). -/
def TargetSettings.capture (c : TargetSettings) : Captured :=
  { width := c.width, wait := c.wait, recovery := c.recovery, limit := c.limit }

/-- A beat begins: the phase is BEAT, the wait count starts and the lane enables are driven again (R54; log 27). -/
def TargetPort.beginBeat (p : TargetPort) : TargetPort :=
  { p with phase := .beat, waitDone := false, count := 0, lanesDropped := false }

/-- A beat has ended: the strobe drops and the recovery count starts (R54, R55). -/
def TargetPort.beginRecovery (p : TargetPort) : TargetPort :=
  { p with phase := .recovery, waitDone := false, count := 0 }

/-- ACCESS_START (R51): the idle port of an ONLINE target starts the head of its queue. -/
def execAccessStart (t : Target) (s : State) : Result :=
  .next <|
    if (s.target t).phase == .idle && (s.target t).state == .online then
      match (s.target t).queue with
      | [] => s
      | a :: rest =>
        s.setTarget t
          { (s.target t).beginBeat with
            queue := rest
            running := some { access := a, beat := 0, bytes := [] }
            captured := some (s.target t).settings.capture }
    else s

/-! ### The end of a beat (R54 to R58) -/

/-- The end of a beat of the access in progress with ready high (R54): with the error input high the access ends
TARGET_ERROR (R57); otherwise the beat is done, and after the last beat the access completes OK (R56). -/
def endBeat (t : Target) (error : Bool) (data : Word) (s : State) : State :=
  match (s.target t).running, (s.target t).captured with
  | some r, some c =>
    if error then
      endFaulted .targetError r.access
        (s.setTarget t { (s.target t).beginRecovery with running := none })
    else
      let got := if r.access.kind = .write then r.bytes else r.bytes ++ beatRead r.access c.width r.beat data
      if r.beat + 1 < beatCount r.access.form c.width then
        s.setTarget t
          { (s.target t).beginRecovery with
            running := some { r with beat := r.beat + 1, bytes := got } }
      else
        endOk r.access (if r.access.kind = .write then .zero else readData r.access got)
          (s.setTarget t { (s.target t).beginRecovery with running := none })
  | _, _ => s

/-- The levels of the input lines as last sampled (section 0.9; log 7). -/
def setLines (t : Target) (lines : TargetLines) (s : State) : State :=
  s.setTarget t { s.target t with lines := lines }

/-- The wait count of the running beat ends and ready is examined: high, the beat ends at once; low, the strobe is held
and cycles are counted (R54 step 3). -/
def waitCountEnds (t : Target) (s : State) : State :=
  if (s.target t).lines.ready then endBeat t (s.target t).lines.error (s.target t).lines.data s
  else s.setTarget t { s.target t with waitDone := true, count := 0 }

/-- Is a beat in its wait count? -/
def TargetPort.inWait (p : TargetPort) : Bool := p.phase == .beat && !p.waitDone

/-- Is a beat held after its wait count, ready having been low? -/
def TargetPort.inHold (p : TargetPort) : Bool := p.phase == .beat && p.waitDone

/-- WAIT_COUNT_END (R54): with ready high the beat ends in this same step (log 5). DESIGN CHOICE, unsafe: the row is the
end of the wait count, whatever number of cycles has been counted (log 26). -/
def execWaitCountEnd (t : Target) (ready error : Bool) (data : Word) (s : State) : Result :=
  .next <|
    if (s.target t).inWait then
      waitCountEnds t (setLines t { ready := ready, error := error, data := data } s)
    else s

/-- BEAT_END (R54): ready is high after the wait count. Ready is not examined during the wait count, so a port in its
wait count is left as it is (log 5). -/
def execBeatEnd (t : Target) (error : Bool) (data : Word) (s : State) : Result :=
  .next <|
    if (s.target t).inHold then endBeat t error data (setLines t { ready := true, error := error, data := data } s)
    else s

/-- The recovery count ends: the next beat of the access begins, or the port enters IDLE (R55). -/
def recoveryEnds (t : Target) (s : State) : State :=
  match (s.target t).running with
  | some _ => s.setTarget t (s.target t).beginBeat
  | none =>
    s.setTarget t { s.target t with phase := .idle, waitDone := false, count := 0, captured := none }

/-- RECOVERY_END (R55). DESIGN CHOICE, unsafe: the row is the end of the recovery count, whatever number of cycles has
been counted (log 26). -/
def execRecoveryEnd (t : Target) (s : State) : Result :=
  .next (if (s.target t).phase == .recovery then recoveryEnds t s else s)

/-- The response timer of the running beat expires (R58): the access ends TARGET_SILENT, the target goes FAILED, its
queue and waiting lists are answered TARGET_DOWN, and TARGET_FAILED is raised to M0. -/
def responseTimerExpires (t : Target) (s : State) : State :=
  match (s.target t).running with
  | none => s
  | some r =>
    let s := s.setTarget t { (s.target t).beginRecovery with running := none }
    let s := endFaulted .targetSilent r.access s
    let s := s.setTarget t { s.target t with state := .failed }
    raiseNotice 0 (targetFailedNotice t) (answerDown t s)

/-- RESPONSE_TIMER_EXPIRY (R58): ready has stayed low. The timer runs only in a beat held after its wait count. DESIGN
CHOICE, unsafe: the row is the expiry, whatever number of cycles has been counted (log 26). -/
def execResponseTimerExpiry (t : Target) (s : State) : Result :=
  .next <|
    if (s.target t).inHold then
      responseTimerExpires t (setLines t { (s.target t).lines with ready := false } s)
    else s

/-! ### One fabric clock cycle of a target port (R54, R55) -/

/-- A cycle of a beat, with the settings captured: the wait count, then the ready-low count. -/
def beatCycle (t : Target) (c : Captured) (s : State) : State :=
  let n := (s.target t).count + 1
  if (s.target t).waitDone then
    if c.limit ≤ n then responseTimerExpires t s
    else if (s.target t).lines.ready then endBeat t (s.target t).lines.error (s.target t).lines.data s
    else s.setTarget t { s.target t with count := n }
  else if c.wait ≤ n then waitCountEnds t s
  else s.setTarget t { s.target t with count := n }

/-- Is a port in a recovery of 0 cycles (R55)? -/
def TargetPort.recovered (p : TargetPort) : Bool :=
  p.phase == .recovery && (p.captured.map Captured.recovery) == some 0

/-- A recovery of 0 cycles takes no cycle: it ends where it begins, so that the next beat of the access, or the first
beat of the next access, can take the cycle after the strobe drops (R55; log 2). -/
def skipRecovery (t : Target) (s : State) : State := if (s.target t).recovered then recoveryEnds t s else s

/-- A cycle of a port by its phase: nothing in IDLE; a cycle of the running beat in BEAT; a cycle of recovery in
RECOVERY (R54, R55). -/
def phaseCycle (t : Target) (s : State) : State :=
  match (s.target t).phase, (s.target t).captured with
  | .beat, some c => beatCycle t c s
  | .recovery, some c =>
    if c.recovery ≤ (s.target t).count + 1 then recoveryEnds t s
    else s.setTarget t { s.target t with count := (s.target t).count + 1 }
  | _, _ => s

/-- One cycle at a target port. A recovery of 0 cycles is over before the cycle when a command left the port in it, and
with the cycle when the cycle ends the beat (R55). -/
def targetCycle (t : Target) (s : State) : State := skipRecovery t (phaseCycle t (skipRecovery t s))

end Sys2Proof.Machine
end

