-- ==== Sys2Proof/Machine/Resets.lean ====
section
/-! DEFINITION. MASTER_RESET, MASTER_RESET_DEASSERTION, DEVICE_RESET and DEVICE_RESET_DEASSERTION, and one fabric clock
cycle of the whole part. -/

namespace Sys2Proof.Machine

/-! ### The master reset line (R43, R44, R80, R163) -/

/-- The fault record is emptied and the notice state returns to its reset values (R163 steps 1 and 2). -/
def resetNotices (n : Master) (s : State) : State :=
  s.setMaster n { s.master n with faultRecord := none, notices := [], order := defaultOrder, enables := allEnables }

/-- The offers a master made are withdrawn and their windows return to ACTIVE (R129, disposition KEEP). -/
def withdrawOffersOf (n : Master) (s : State) : State :=
  allSlots.foldl
    (fun s i =>
      if (s.window i).retirableOf n && (s.window i).offer.isSome then reactivate i (withdrawOffer i s) else s) s

/-- The private windows of a master are disposed of by its reset disposition (R163 step 4). -/
def disposeWindows (n : Master) (s : State) : State :=
  match (s.master n).disposition with
  | .release => retireWindowsOf .masterReset n s
  | .keep => withdrawOffersOf n s

/-- MASTER_RESET (R43, R80, R163): the assertion of a master reset line, at the port, the mailbox and the tables in one
change. A line already asserted is not asserted again (log 21). -/
def execMasterReset (n : Master) (s : State) : Result :=
  .next <|
    if (s.port n).lineAsserted then s
    else
      disposeWindows n
        (declineOffersTo n
          (resetNotices n (resetMailboxOf n (s.setPort n (s.port n).assertReset))))

/-- MASTER_RESET_DEASSERTION (R44). A line not asserted is left (log 21). -/
def execMasterResetDeassertion (n : Master) (s : State) : Result :=
  .next (if (s.port n).lineAsserted then s.setPort n (s.port n).deassertReset else s)

/-! ### The device reset input (R23, R45, R65, R81, R105, R153) -/

/-- Everything at its reset value while the input is asserted. The lines driven from outside keep their levels, and so
does the queue of commands, which is the model's own (log 8). -/
def assertDeviceReset (s : State) : State :=
  { windows := resetWindows
    masters := resetMasters
    ports := Vector.ofFn fun m => resetPort (s.port m).lineAsserted
    mailboxes := Vector.replicate 6 resetMailbox
    targets := Vector.ofFn fun t => resetTarget t (s.target t).lines
    engine := resetEngine
    timer := resetTimer
    resolverPointer := 5
    drst := true
    pending := s.pending }

/-- DEVICE_RESET (R45, R65, R81): the assertion of DRST. -/
def execDeviceReset (s : State) : Result := .next (assertDeviceReset s)

/-- DEVICE_RESET_DEASSERTION (R45, R105): the ports accept again and the prescaler starts counting. -/
def execDeviceResetDeassertion (s : State) : Result := .next { s with drst := false }

/-! ### One fabric clock cycle (log 2) -/

/-- One cycle of the fabric clock: every target port, then the lease prescaler. While the device reset input is asserted
the cycle count stays at 0 and the ports are idle (R65, R105). DESIGN CHOICE, unsafe: the order of ports and prescaler
within a cycle (log 2). -/
def fabricCycle (s : State) : State :=
  if s.drst then s else timerCycle (allTargets.foldl (fun s t => targetCycle t s) s)

end Sys2Proof.Machine
end

