-- ==== Sys2Proof/Machine/Resolver.lean ====
section
/-! DEFINITION. The resolver: RESOLUTION (R28 to R35). -/

namespace Sys2Proof.Machine

/-- Step 1 of resolution: the request names a kind and a form and its address is a multiple of the form's bytes
(R30). -/
def formOk (r : Request) : Option (AccessKind × Form) :=
  match reqKind r, reqForm r with
  | some k, some f => if r.addr.toNat % f.size = 0 then some (k, f) else none
  | _, _ => none

/-- The fault report of a refused access, with the handle and target of the deciding window when there is one (R35). -/
def refusedReport (s : State) (r : Request) (kind : FaultKind) (window : Option Slot) : FaultReport :=
  { kind := kind, addr := r.addr, accessKind := reqKind r, form := reqForm r,
    handle := window.map s.handle, target := window.map fun i => (s.window i).target }

/-- An access fails a step of resolution: its response falls due with the fault's code and its report is entered
(R35). -/
def refuseAccess (m : Master) (r : Request) (kind : FaultKind) (window : Option Slot) (s : State) : State :=
  answer m { tag := r.tag, code := .fault kind, data := .zero } (some (refusedReport s r kind window)) s

/-- The resolved access of a hit (R34). -/
def resolvedOf (s : State) (m : Master) (r : Request) (k : AccessKind) (f : Form) (i : Slot) : Resolved :=
  { master := m, tag := r.tag, kind := k, form := f, addr := r.addr, target := (s.window i).target,
    targetAddr := (s.window i).translate r.addr, slot := i, gen := (s.window i).gen,
    wdata := if k = .write then requestBytes r f else [] }

/-- A hit (R34): the access is counted on its window and enters the tail of its port's waiting list for the window's
target. -/
def hitAccess (m : Master) (r : Request) (k : AccessKind) (f : Form) (i : Slot) (s : State) : State :=
  let a := resolvedOf s m r k f i
  let s := s.setWindow i { s.window i with inFlight := (s.window i).inFlight + 1 }
  s.setPort m ((s.port m).setWaiting a.target ((s.port m).waitingFor a.target ++ [a]))

/-- The six steps of resolution (section 2.3). -/
def resolveAccess (m : Master) (r : Request) (s : State) : State :=
  match formOk r with
  | none => refuseAccess m r .badAccess none s
  | some (k, f) =>
    match decideAccess s m (pageOf r.addr) k with
    | .noWindow => refuseAccess m r .noWindow none s
    | .refused kind i => refuseAccess m r kind (some i) s
    | .hit i => hitAccess m r k f i s

/-- What the taking of an access does by the state of its master (R29). -/
def takeAccess (m : Master) (r : Request) (s : State) : State :=
  match (s.master m).state with
  | .online => resolveAccess m r s
  | .held => answer m { tag := r.tag, code := .held, data := .zero } none s
  | .offline => answer m { tag := r.tag, code := .detached, data := .zero } none s

/-- RESOLUTION (R28): the resolver takes the head of the unresolved list of the first presenting port after the one it
took from last. With no port presenting nothing is taken. -/
def execResolution (s : State) : Result :=
  .next <|
    match nextInTurn s.resolverPointer fun m => !(s.port m).unresolved.isEmpty with
    | none => s
    | some m =>
      match (s.port m).unresolved with
      | [] => s
      | r :: rest =>
        takeAccess m r { s.setPort m { s.port m with unresolved := rest } with resolverPointer := m }

end Sys2Proof.Machine
end

