-- ==== Sys2Proof/Machine/TargetCommands.lean ====
section
/-! DEFINITION. SET_TARGET, TARGET_ONLINE, TARGET_OFFLINE and QUERY_TARGET. Section 3.6. -/

namespace Sys2Proof.Machine

/-- Does no live window map a page of a target at or above a size (R61 check 3)? -/
def State.fitsTarget (s : State) (t : Target) (size : Nat) : Bool :=
  allSlots.all fun i =>
    !((s.window i).live && (s.window i).target == t) || decide ((s.window i).targetBase + (s.window i).length ≤ size)

/-- The checks of SET_TARGET in order (R61). -/
def setTargetChecks (m : Master) (p : Params) (s : State) : List (Bool × ResultCode) :=
  [ supervisorCheck m,
    (setTargetInRange p, .badParam),
    ((s.target (targetParam p.p0)).state != .online, .targetBusy),
    (s.fitsTarget (targetParam p.p0) (bits p.p1 16 0), .outOfTarget) ]

/-- SET_TARGET (R61): the five settings take the new values together. -/
def setTargetBody (m : Master) (p : Params) (s : State) : Completion :=
  let t := targetParam p.p0
  checked (setTargetChecks m p s) s
    { state := s.setTarget t
        { s.target t with settings := (settingsParam p).getD (s.target t).settings }
      code := .done
      words := zeroWords }

/-- Completion of SET_TARGET. -/
def execSetTarget (s : State) : Result := .next (completeCommand .setTarget setTargetBody s)

/-- TARGET_ONLINE (R62): the state becomes ONLINE and a pending TARGET_FAILED of the target is removed from M0's set. -/
def targetOnlineBody (m : Master) (p : Params) (s : State) : Completion :=
  let t := targetParam p.p0
  checked
    [supervisorCheck m, (targetInRange p.p0, .badParam), ((s.target t).state != .online, .wrongState)] s
    { state := removeNotice 0 .targetFailed (targetKey t) (s.setTarget t { s.target t with state := .online })
      code := .done
      words := zeroWords }

/-- Completion of TARGET_ONLINE. -/
def execTargetOnline (s : State) : Result := .next (completeCommand .targetOnline targetOnlineBody s)

/-- TARGET_OFFLINE (R63): the state becomes OFFLINE, and the queue and the waiting lists are answered TARGET_DOWN; an
access in progress runs on. -/
def targetOfflineBody (m : Master) (p : Params) (s : State) : Completion :=
  let t := targetParam p.p0
  checked
    [supervisorCheck m, (targetInRange p.p0, .badParam), ((s.target t).state != .offline, .wrongState)] s
    { state := answerDown t (s.setTarget t { s.target t with state := .offline })
      code := .done
      words := zeroWords }

/-- Completion of TARGET_OFFLINE. -/
def execTargetOffline (s : State) : Result := .next (completeCommand .targetOffline targetOfflineBody s)

/-- The result words of QUERY_TARGET (R64, R169). -/
def targetWords (p : TargetPort) : ResultWords :=
  { w0 := field 17 0 p.settings.size ||| field 2 20 p.settings.width.code ||| field 2 24 p.state.code
    w1 := timingWord p.settings
    w2 := field 4 0 p.queue.length ||| field 1 8 (bit p.running.isSome) }

/-- QUERY_TARGET (R64): any master; nothing changes. -/
def queryTargetBody (_m : Master) (p : Params) (s : State) : Completion :=
  checked [(targetInRange p.p0, .badParam)] s
    { state := s, code := .done, words := targetWords (s.target (targetParam p.p0)) }

/-- Completion of QUERY_TARGET. -/
def execQueryTarget (s : State) : Result := .next (completeCommand .queryTarget queryTargetBody s)

end Sys2Proof.Machine
end

