-- ==== Sys2Proof/Machine/Dispatch.lean ====
section
/-! DEFINITION. The meaning of every command: one arm per constructor of `Instr`. -/

namespace Sys2Proof.Machine

-- The effect of a command on everything but the queue.
def exec (i : Instr) (s : State) : Host.Outcome State Fault Refusal :=
  match i with
  | .requestAcceptance m r => Sys2Proof.Machine.execRequestAcceptance m r s
  | .resolution => Sys2Proof.Machine.execResolution s
  | .admission t => Sys2Proof.Machine.execAdmission t s
  | .accessStart t => Sys2Proof.Machine.execAccessStart t s
  | .waitCountEnd t ready error data => Sys2Proof.Machine.execWaitCountEnd t ready error data s
  | .beatEnd t error data => Sys2Proof.Machine.execBeatEnd t error data s
  | .recoveryEnd t => Sys2Proof.Machine.execRecoveryEnd t s
  | .responseTimerExpiry t => Sys2Proof.Machine.execResponseTimerExpiry t s
  | .responseReturn m => Sys2Proof.Machine.execResponseReturn m s
  | .parameterWrite m => Sys2Proof.Machine.execParameterWrite m s
  | .engineGrant => Sys2Proof.Machine.execEngineGrant s
  | .badCommand => Sys2Proof.Machine.execBadCommand s
  | .claim => Sys2Proof.Machine.execClaim s
  | .claimCommon => Sys2Proof.Machine.execClaimCommon s
  | .extend => Sys2Proof.Machine.execExtend s
  | .release => Sys2Proof.Machine.execRelease s
  | .revoke => Sys2Proof.Machine.execRevoke s
  | .setMembers => Sys2Proof.Machine.execSetMembers s
  | .query => Sys2Proof.Machine.execQuery s
  | .queryAddress => Sys2Proof.Machine.execQueryAddress s
  | .findHeld => Sys2Proof.Machine.execFindHeld s
  | .renew => Sys2Proof.Machine.execRenew s
  | .setLeaseClock => Sys2Proof.Machine.execSetLeaseClock s
  | .offer => Sys2Proof.Machine.execOffer s
  | .withdraw => Sys2Proof.Machine.execWithdraw s
  | .accept => Sys2Proof.Machine.execAccept s
  | .decline => Sys2Proof.Machine.execDecline s
  | .readFault => Sys2Proof.Machine.execReadFault s
  | .clearFault => Sys2Proof.Machine.execClearFault s
  | .releaseHold => Sys2Proof.Machine.execReleaseHold s
  | .takeNotice => Sys2Proof.Machine.execTakeNotice s
  | .setNoticeOrder => Sys2Proof.Machine.execSetNoticeOrder s
  | .setNoticeEnable => Sys2Proof.Machine.execSetNoticeEnable s
  | .setMaster => Sys2Proof.Machine.execSetMaster s
  | .queryMaster => Sys2Proof.Machine.execQueryMaster s
  | .detach => Sys2Proof.Machine.execDetach s
  | .attach => Sys2Proof.Machine.execAttach s
  | .setTarget => Sys2Proof.Machine.execSetTarget s
  | .targetOnline => Sys2Proof.Machine.execTargetOnline s
  | .targetOffline => Sys2Proof.Machine.execTargetOffline s
  | .queryTarget => Sys2Proof.Machine.execQueryTarget s
  | .leaseTick => Sys2Proof.Machine.execLeaseTick s
  | .leaseExpiry slot => Sys2Proof.Machine.execLeaseExpiry slot s
  | .graceExpiry slot => Sys2Proof.Machine.execGraceExpiry slot s
  | .offerExpiry slot => Sys2Proof.Machine.execOfferExpiry slot s
  | .masterReset m => Sys2Proof.Machine.execMasterReset m s
  | .masterResetDeassertion m => Sys2Proof.Machine.execMasterResetDeassertion m s
  | .deviceReset => Sys2Proof.Machine.execDeviceReset s
  | .deviceResetDeassertion => Sys2Proof.Machine.execDeviceResetDeassertion s
  | .commandSubmission m => Sys2Proof.Machine.execCommandSubmission m s
  | .apertureAccessTaking m => Sys2Proof.Machine.execApertureAccessTaking m s

end Sys2Proof.Machine
end

