-- ==== Sys2Proof/Safety.lean ====
section
/-! DEFINITION. What the claims speak of: the command in execution and its row, the port a round robin reaches, and the
invariants of the part. A safe run is one in which every state meets `OfferLaw`, `LawfulWindows`, `CountedAccesses`,
`TagsAccounted`, `NoticesUnique`, `OfflineLaw`, `SupervisorLaw`, `TargetPortLaw`, `MailboxLaw` and `InRange`. -/

namespace Sys2Proof.Safety

open Sys2Proof.Machine

/-! ### Words of the claims -/

/-- The row that completes a command of R76. -/
def completion : CmdId → Instr
  | .claim => .claim
  | .claimCommon => .claimCommon
  | .extend => .extend
  | .release => .release
  | .revoke => .revoke
  | .setMembers => .setMembers
  | .query => .query
  | .queryAddress => .queryAddress
  | .findHeld => .findHeld
  | .renew => .renew
  | .setLeaseClock => .setLeaseClock
  | .offer => .offer
  | .withdraw => .withdraw
  | .accept => .accept
  | .decline => .decline
  | .readFault => .readFault
  | .clearFault => .clearFault
  | .releaseHold => .releaseHold
  | .takeNotice => .takeNotice
  | .setNoticeOrder => .setNoticeOrder
  | .setNoticeEnable => .setNoticeEnable
  | .setMaster => .setMaster
  | .queryMaster => .queryMaster
  | .detach => .detach
  | .attach => .attach
  | .setTarget => .setTarget
  | .targetOnline => .targetOnline
  | .targetOffline => .targetOffline
  | .queryTarget => .queryTarget

/-- The eleven supervisor-only commands of R76. -/
def supervisorOnly : List CmdId :=
  [.claimCommon, .revoke, .setMembers, .setLeaseClock, .releaseHold, .setMaster, .detach, .attach, .setTarget,
   .targetOnline, .targetOffline]

/-- The engine executes a command, held in `x`. -/
def Executing (s : State) (x : Execution) (id : CmdId) : Prop :=
  s.engine.execution = some x ∧ CmdId.ofCode x.command.toNat = some id

/-- The four success codes of R78. -/
def succeeded (c : ResultCode) : Prop := c = .done ∨ c = .doneLate ∨ c = .doneDraining ∨ c = .empty

/-- Port or mailbox `m` is the first after `last`, in the order M0, M1, …, M5, M0, for which `wants` holds (R28, R49,
R74). -/
def FirstAfter (last : Master) (wants : Master → Prop) (m : Master) : Prop :=
  wants m ∧ ∃ k : Master, m = last + 1 + k ∧ ∀ j : Master, j < k → ¬ wants (last + 1 + j)

/-- Two ranges of pages, each given by its first page and its length, have no page in common. -/
def Apart (a n b k : Nat) : Prop := a + n ≤ b ∨ b + k ≤ a

/-- Two such ranges have a page in common. -/
def Meet (a n b k : Nat) : Prop := ∃ page, a ≤ page ∧ page < a + n ∧ b ≤ page ∧ page < b + k

/-- The set `new` is the set `old` after the notices of `removed` kinds and keys have gone and the `raised` ones have
entered, each in the place of a pending one of its kind and key (R144, R145). -/
def SetAfter (old new : List Notice) (raised : Notice → Prop) (removed : NoticeKind → Slot → Prop) : Prop :=
  ∀ y : Notice, y ∈ new ↔
    raised y ∨ (y ∈ old ∧ ¬ removed y.kind y.key ∧ ∀ x, raised x → ¬(x.kind = y.kind ∧ x.key = y.key))

/-! ### The checks of the commands (R77), written from the rules -/

/-- A word is a handle word: slot in bits 4:0, generation in bits 11:8, every other bit zero (R166). -/
def IsHandle (w : Word) : Prop := ∃ slot < 32, ∃ gen < 16, w.toNat = slot + gen * 256

/-- Step 3 of R77: every parameter word the command uses holds values in range in the fields of R168 and no other bit
(R61, R82, R106, R114, R121, R149, R150, R156, R157, R166). -/
def ParamsInRange (id : CmdId) (p : Params) : Prop :=
  match id with
  | .claim => claimed ∧ p.p3.toNat ≤ 65535
  | .claimCommon => claimed ∧ ∃ lease ≤ 65535, ∃ members ≤ 63, p.p3.toNat = lease + members * 2 ^ 16
  | .extend => IsHandle p.p0 ∧ 1 ≤ p.p1.toNat ∧ p.p1.toNat ≤ 65535
  | .release => IsHandle p.p0
  | .revoke => IsHandle p.p0
  | .setMembers => IsHandle p.p0 ∧ p.p1.toNat ≤ 63
  | .query => IsHandle p.p0 ∧ p.p1.toNat ≤ 1
  | .queryAddress => p.p0.toNat ≤ 0xFFEFFFF ∧ p.p1.toNat ≤ 2
  | .findHeld => p.p0.toNat ≤ 31
  | .renew => IsHandle p.p0
  | .setLeaseClock =>
    p.p0.toNat ≤ 4095 ∧ ∃ margin ≤ 255, ∃ grace ≤ 255, p.p1.toNat = margin + grace * 2 ^ 8
  | .offer =>
    IsHandle p.p0 ∧ ∃ recipient ≤ 5, ∃ ticks ≤ 255, 1 ≤ ticks ∧ p.p1.toNat = recipient + ticks * 2 ^ 8
  | .withdraw => IsHandle p.p0
  | .accept => IsHandle p.p0
  | .decline => IsHandle p.p0
  | .readFault => True
  | .clearFault => True
  | .releaseHold => p.p0.toNat ≤ 5
  | .takeNotice => True
  | .setNoticeOrder =>
    ∃ o : List Nat, o.Perm [1, 2, 3, 4, 5, 6, 7, 8, 9, 10, 11] ∧
      p.p0.toNat + p.p1.toNat * 2 ^ 32 = Nat.ofDigits 16 o
  | .setNoticeEnable => p.p0.toNat < 2 ^ 11
  | .setMaster =>
    p.p0.toNat ≤ 5 ∧ ∃ quota ≤ 32, ∃ hold ≤ 1, ∃ keep ≤ 1,
      p.p1.toNat = quota + hold * 2 ^ 8 + keep * 2 ^ 9 ∧ ¬(p.p0.toNat = 0 ∧ hold = 1)
  | .queryMaster => p.p0.toNat ≤ 5
  | .detach => p.p0.toNat ≤ 5
  | .attach => p.p0.toNat ≤ 5
  | .setTarget =>
    p.p0.toNat ≤ 3 ∧ (∃ size ≤ 65536, ∃ width ≤ 2, p.p1.toNat = size + width * 2 ^ 20) ∧
      ∃ wait ≤ 31, ∃ recovery ≤ 15, ∃ limit ≤ 1023,
        1 ≤ wait ∧ 8 ≤ limit ∧ p.p2.toNat = wait + recovery * 2 ^ 8 + limit * 2 ^ 16
  | .targetOnline => p.p0.toNat ≤ 3
  | .targetOffline => p.p0.toNat ≤ 3
  | .queryTarget => p.p0.toNat ≤ 3
where
  /-- P0 to P2 of the two claims: fabric base, a length of at least 1, and target base, target and rights. -/
  claimed : Prop :=
    p.p0.toNat ≤ 65535 ∧ 1 ≤ p.p1.toNat ∧ p.p1.toNat ≤ 65535 ∧
      ∃ base ≤ 65535, ∃ target ≤ 3, ∃ rights ≤ 7, p.p2.toNat = base + target * 2 ^ 16 + rights * 2 ^ 20

/-- What refuses a command, in the order of R77 and of its own rule: each condition with the code it gives (R61 to R63,
R84, R87, R90, R92, R94, R96, R98, R106, R114, R121, R123 to R125, R141, R149, R150, R156, R157, R159, R162). -/
def refusals (id : CmdId) (m : Master) (p : Params) (s : State) : List (Prop × ResultCode) :=
  match id with
  | .claim =>
    [badParam, (p.p3.toNat = 0, .badParam), (p.p2.toNat / 2 ^ 20 = 0, .badParam),
     (65519 < p.p0.toNat + p.p1.toNat - 1, .aperture), quotaReached,
     (privateMeets m p.p0.toNat p.p1.toNat, .overlapFabric), outOfTarget, targetMet, noSlot]
  | .claimCommon =>
    [notM0, badParam, (p.p2.toNat / 2 ^ 20 = 0, .badParam), (65519 < p.p0.toNat + p.p1.toNat - 1, .aperture),
     (∃ j, (s.window j).state ≠ .free ∧ (s.window j).layer = .common ∧
        Meet p.p0.toNat p.p1.toNat (s.window j).fabricBase (s.window j).length, .overlapFabric),
     outOfTarget, targetMet, noSlot]
  | .extend =>
    [badParam, stale, (m ≠ (if w.layer = .priv then w.holder else 0), .notHolder), (w.state ≠ .active, .wrongState),
     (65519 < w.fabricBase + w.length + p.p1.toNat - 1, .aperture),
     (∃ j, j ≠ slot ∧ (s.window j).state ≠ .free ∧ (s.window j).layer = w.layer ∧
        (w.layer = .priv → (s.window j).holder = w.holder) ∧
        Meet (w.fabricBase + w.length) p.p1.toNat (s.window j).fabricBase (s.window j).length, .overlapFabric),
     ((s.target w.target).settings.size < w.targetBase + w.length + p.p1.toNat, .outOfTarget),
     (∃ j, j ≠ slot ∧ (s.window j).state ≠ .free ∧ (s.window j).target = w.target ∧
        Meet (w.targetBase + w.length) p.p1.toNat (s.window j).targetBase (s.window j).length, .overlapTarget)]
  | .release => [badParam, stale, notHolder, notRetirable]
  | .revoke => [notM0, badParam, stale, notRetirable]
  | .setMembers =>
    [notM0, badParam, stale, (w.layer ≠ .common, .wrongLayer), (w.state ≠ .active ∧ w.state ≠ .lapsed, .wrongState)]
  | .query =>
    [badParam, stale,
     (m ≠ 0 ∧ w.holder ≠ m ∧ ¬(w.state = .offered ∧ ∃ o ∈ w.offer, o.recipient = m) ∧
        ¬(w.layer = .common ∧ ∃ set ∈ w.members, set.getLsbD m.val = true), .notHolder)]
  | .queryAddress => [badParam]
  | .findHeld => [badParam]
  | .renew =>
    [badParam, stale, notHolder,
     ((w.state ≠ .active ∧ w.state ≠ .offered ∧ w.state ≠ .lapsed) ∨ w.leasePeriod = none, .wrongState)]
  | .setLeaseClock => [notM0, badParam]
  | .offer =>
    [badParam, stale, notHolder, (w.state ≠ .active, .wrongState), (w.layer ≠ .priv, .wrongLayer),
     (p.p1.toNat % 2 ^ 8 = m.val, .self), ((s.master (Fin.ofNat 6 (p.p1.toNat % 2 ^ 8))).state = .offline, .recipient)]
  | .withdraw =>
    [badParam, stale, notHolder, (w.layer ≠ .priv, .wrongLayer), (w.state ≠ .offered, .wrongState)]
  | .accept =>
    [badParam, stale, notOffered, quotaReached, (privateMeets m w.fabricBase w.length, .overlapFabric)]
  | .decline => [badParam, stale, notOffered]
  | .readFault => []
  | .clearFault => []
  | .releaseHold => [notM0, badParam, ((s.master named).state ≠ .held, .wrongState)]
  | .takeNotice => []
  | .setNoticeOrder => [badParam]
  | .setNoticeEnable => [badParam]
  | .setMaster => [notM0, badParam]
  | .queryMaster => [badParam, (m ≠ 0 ∧ m ≠ named, .notSupervisor)]
  | .detach => [notM0, badParam, ((s.master named).state = .offline, .wrongState), (named = 0, .self)]
  | .attach => [notM0, badParam, ((s.master named).state ≠ .offline, .wrongState)]
  | .setTarget =>
    [notM0, badParam, ((s.target unit).state = .online, .targetBusy),
     (∃ j, (s.window j).state ≠ .free ∧ (s.window j).target = unit ∧
        p.p1.toNat % 2 ^ 20 < (s.window j).targetBase + (s.window j).length, .outOfTarget)]
  | .targetOnline => [notM0, badParam, ((s.target unit).state = .online, .wrongState)]
  | .targetOffline => [notM0, badParam, ((s.target unit).state = .offline, .wrongState)]
  | .queryTarget => [badParam]
where
  /-- The slot of the handle in P0. -/
  slot : Slot := Fin.ofNat 32 p.p0.toNat
  /-- The window in that slot. -/
  w : Window := s.window slot
  /-- The master that P0 names. -/
  named : Master := Fin.ofNat 6 p.p0.toNat
  /-- The target that P0 names. -/
  unit : Target := Fin.ofNat 4 p.p0.toNat
  /-- The target of a claim. -/
  claimedTarget : Target := Fin.ofNat 4 (p.p2.toNat / 2 ^ 16)
  /-- Step 2. -/
  notM0 : Prop × ResultCode := (m ≠ 0, .notSupervisor)
  /-- Step 3. -/
  badParam : Prop × ResultCode := (¬ ParamsInRange id p, .badParam)
  /-- Step 4: the slot is FREE or at another generation (R5). -/
  stale : Prop × ResultCode := (w.state = .free ∨ w.gen.toNat ≠ p.p0.toNat / 2 ^ 8, .staleHandle)
  /-- Step 5 of RELEASE, RENEW, OFFER and WITHDRAW. -/
  notHolder : Prop × ResultCode := (w.holder ≠ m, .notHolder)
  /-- Step 5 of ACCEPT and DECLINE. -/
  notOffered : Prop × ResultCode := (¬ ∃ o ∈ w.offer, o.recipient = m, .notOffered)
  /-- Step 7 of RELEASE and REVOKE. -/
  notRetirable : Prop × ResultCode :=
    (w.state ≠ .active ∧ w.state ≠ .offered ∧ w.state ≠ .lapsed, .wrongState)
  /-- Check 4 of R84 and check 8.1 of R125: the live private windows held are as many as the quota (R86). -/
  quotaReached : Prop × ResultCode :=
    ((s.master m).quota ≤
      (List.finRange 32).countP fun j : Slot =>
        (s.window j).state != .free && (s.window j).layer == .priv && (s.window j).holder == m, .quota)
  /-- A live private window of a master covers a page of a range. -/
  privateMeets (n : Master) (base length : Nat) : Prop :=
    ∃ j, (s.window j).state ≠ .free ∧ (s.window j).layer = .priv ∧ (s.window j).holder = n ∧
      Meet base length (s.window j).fabricBase (s.window j).length
  /-- The target range of a claim passes the target's size. -/
  outOfTarget : Prop × ResultCode :=
    ((s.target claimedTarget).settings.size < p.p2.toNat % 2 ^ 16 + p.p1.toNat, .outOfTarget)
  /-- A live window maps a target page of a claim. -/
  targetMet : Prop × ResultCode :=
    (∃ j, (s.window j).state ≠ .free ∧ (s.window j).target = claimedTarget ∧
      Meet (p.p2.toNat % 2 ^ 16) p.p1.toNat (s.window j).targetBase (s.window j).length, .overlapTarget)
  /-- No slot is FREE. -/
  noSlot : Prop × ResultCode := (∀ j, (s.window j).state ≠ .free, .noSlot)

/-- The first condition of a list that holds gives its code. -/
def RefusedWith : List (Prop × ResultCode) → ResultCode → Prop
  | [], _ => False
  | (fails, code) :: rest, c => (fails ∧ c = code) ∨ (¬ fails ∧ RefusedWith rest c)

/-! ### The window table -/

/-- R3, R10, R11 and R12: every live window is well made and within its target, and no two live windows meet in target
pages, nor two of one layer and one holder in fabric pages. -/
def LawfulWindows (s : State) : Prop :=
  (∀ i : Slot, (s.window i).live = true →
    1 ≤ (s.window i).length ∧ (s.window i).fabricBase + (s.window i).length ≤ 65520 ∧
    (s.window i).targetBase + (s.window i).length ≤ (s.target (s.window i).target).settings.size ∧
    (s.window i).rights ≠ 0#3 ∧
    ((s.window i).layer = .priv → (s.window i).leasePeriod.isSome = true ∧ (s.window i).members = none) ∧
    ((s.window i).layer = .common → (s.window i).holder = 0 ∧ (s.window i).members.isSome = true)) ∧
  (∀ i j : Slot, i ≠ j → (s.window i).live = true → (s.window j).live = true →
    ((s.window i).target = (s.window j).target →
      Apart (s.window i).targetBase (s.window i).length (s.window j).targetBase (s.window j).length) ∧
    ((s.window i).layer = .common → (s.window j).layer = .common →
      Apart (s.window i).fabricBase (s.window i).length (s.window j).fabricBase (s.window j).length) ∧
    ((s.window i).layer = .priv → (s.window j).layer = .priv → (s.window i).holder = (s.window j).holder →
      Apart (s.window i).fabricBase (s.window i).length (s.window j).fabricBase (s.window j).length))

/-- R131, the offer law. -/
def OfferLaw (s : State) : Prop :=
  ∀ i : Slot, ((s.window i).state = .offered ↔ (s.window i).offer.isSome = true) ∧
    ∀ o ∈ (s.window i).offer,
      o.recipient ≠ (s.window i).holder ∧ (s.master o.recipient).state ≠ .offline ∧ (s.window i).layer = .priv

/-- The number of accesses resolved through a slot and not yet ended at their target: waiting in the ports, queued, and
in progress (R14). -/
def accessesThrough (s : State) (i : Slot) : Nat :=
  (allMasters.map fun m =>
    (allTargets.map fun t => ((s.port m).waitingFor t).countP fun a => a.slot == i).sum).sum +
  (allTargets.map fun t =>
    (s.target t).queue.countP (fun a => a.slot == i) +
      (s.target t).running.toList.countP fun r => r.access.slot == i).sum

/-- R14: every in-flight count is the number of accesses resolved through the slot; only a live slot has any, and a
DRAINING one has at least one. -/
def CountedAccesses (s : State) : Prop :=
  ∀ i : Slot, (s.window i).inFlight = accessesThrough s i ∧
    ((s.window i).state = .free → (s.window i).inFlight = 0) ∧
    ((s.window i).state = .draining → 1 ≤ (s.window i).inFlight)

/-- A window once it has been retired (R16, R17, R20): FREE at the next generation when nothing was in flight, and
otherwise DRAINING with the retirement notice of the cause. -/
def retiredWindow (notice : RetireNotice) (w : Window) : Window :=
  if w.inFlight = 0 then freeWindow (w.gen + 1)
  else
    { w with
      state := .draining, leaseRemaining := 0, warned := false, graceRemaining := 0, offer := none
      retireNotice := notice }

/-- What one tick makes of a window, written from R108 to R113 for the window alone. -/
def windowAfterTick (timer : LeaseTimer) (w : Window) : Window :=
  match w.state with
  | .free => w
  | .draining => w
  | .lapsed =>
    if w.graceRemaining - 1 = 0 then retiredWindow .graceExpired w
    else { w with graceRemaining := w.graceRemaining - 1 }
  | .active => counted
  | .offered =>
    if w.leasePeriod.isSome = true ∧ w.leaseRemaining - 1 = 0 then counted
    else
      match w.offer with
      | none => counted
      | some o =>
        if o.ticks - 1 = 0 then { counted with state := .active, offer := none }
        else { counted with offer := some { o with ticks := o.ticks - 1 } }
where
  /-- The lease countdown of R109 with the lapse of R110 and the retirement of R111. -/
  counted : Window :=
    if w.leasePeriod.isSome = true then
      if w.leaseRemaining - 1 = 0 then
        if timer.grace = 0 then retiredWindow .graceExpired w
        else
          { w with
            state := .lapsed, leaseRemaining := 0, warned := false, graceRemaining := timer.grace, offer := none }
      else
        { w with
          leaseRemaining := w.leaseRemaining - 1
          warned := w.warned || decide (w.leaseRemaining - 1 ≤ timer.margin) }
    else w

/-- The lease of a window comes to 0 at the next tick (R109 step 3). -/
def LeaseEnds (w : Window) : Prop :=
  (w.state = .active ∨ w.state = .offered) ∧ w.leasePeriod.isSome = true ∧ w.leaseRemaining - 1 = 0

/-- The lease of a window comes to the margin at the next tick, for the first time in its period (R109 step 2). -/
def LeaseWarns (timer : LeaseTimer) (w : Window) : Prop :=
  (w.state = .active ∨ w.state = .offered) ∧ w.leasePeriod.isSome = true ∧ w.leaseRemaining - 1 ≠ 0 ∧
    w.leaseRemaining - 1 ≤ timer.margin ∧ w.warned = false

/-- The grace of a window comes to 0 at the next tick (R112). -/
def GraceEnds (w : Window) : Prop := w.state = .lapsed ∧ w.graceRemaining - 1 = 0

/-- An offer of a window expires at the next tick: its ticks come to 0 and the lease does not (R113). -/
def OfferEnds (w : Window) (o : Offer) : Prop := w.state = .offered ∧ ¬ LeaseEnds w ∧ o.ticks - 1 = 0

/-- The notices a tick raises to a master (R109 to R113, R17): LEASE_WARNING, LEASE_LAPSED, OFFER_EXPIRED, and
WINDOW_RETIRED for a window that becomes FREE at once, to the holder, the last not to an OFFLINE one; and OFFER_WITHDRAWN
to the recipient. -/
def tickRaises (s : State) (m : Master) (y : Notice) : Prop :=
  ∃ i : Slot,
    let w := s.window i
    let note := fun k : NoticeKind => ({ kind := k, key := i, gen := w.gen, cause := .none } : Notice)
    (LeaseWarns s.timer w ∧ m = w.holder ∧ y = note .leaseWarning) ∨
    (LeaseEnds w ∧ s.timer.grace ≠ 0 ∧ m = w.holder ∧ y = note .leaseLapsed) ∨
    (((LeaseEnds w ∧ s.timer.grace = 0) ∨ GraceEnds w) ∧ w.inFlight = 0 ∧ m = w.holder ∧
      (s.master m).state ≠ .offline ∧ y = { kind := .windowRetired, key := i, gen := w.gen, cause := .graceExpired }) ∨
    ∃ o ∈ w.offer,
      ((LeaseEnds w ∨ OfferEnds w o) ∧ m = o.recipient ∧ y = note .offerWithdrawn) ∨
      (OfferEnds w o ∧ m = w.holder ∧ y = note .offerExpired)

/-- The kinds and keys a tick removes from a master's set: LEASE_WARNING of a lease that ends (R110, R111), and
OFFER_RECEIVED of an offer that ends (R110, R111, R113). -/
def tickRemoves (s : State) (m : Master) (k : NoticeKind) (i : Slot) : Prop :=
  let w := s.window i
  (k = .leaseWarning ∧ LeaseEnds w ∧ m = w.holder) ∨
    (k = .offerReceived ∧ ∃ o ∈ w.offer, (LeaseEnds w ∨ OfferEnds w o) ∧ m = o.recipient)

/-! ### The ports -/

/-- The number of places in which an access of a master with a tag stands: the lists of its port, the target queues and
the accesses in progress (R25). -/
def standings (s : State) (m : Master) (t : Tag) : Nat :=
  (s.port m).unresolved.countP (fun r => r.tag == t) + (s.port m).aperture.countP (fun r => r.tag == t) +
  (s.port m).responses.countP (fun r => r.tag == t) +
  (allTargets.map fun g => ((s.port m).waitingFor g).countP fun a => a.tag == t).sum +
  (allTargets.map fun g =>
    (s.target g).queue.countP (fun a => a.master == m && a.tag == t) +
      (s.target g).running.toList.countP fun r => r.access.master == m && r.access.tag == t).sum

/-- R25: a tag in use belongs to exactly one outstanding access, which stands in exactly one place, and a free tag to
none. -/
def TagsAccounted (s : State) : Prop :=
  (∀ (m : Master) (t : Tag), standings s m t = if (s.port m).tagFree t then 0 else 1) ∧
  ∀ (m : Master) (g : Target), ∀ a ∈ (s.port m).waitingFor g, a.master = m

/-- R38, R47, R48, R51: no access is queued or waiting for a target that is not ONLINE, an IDLE port has no access in
progress and no captured settings, and a port in BEAT has both. -/
def TargetPortLaw (s : State) : Prop :=
  ∀ t : Target,
    ((s.target t).state ≠ .online → (s.target t).queue = [] ∧ ∀ m : Master, (s.port m).waitingFor t = []) ∧
    ((s.target t).phase = .idle → (s.target t).running = none ∧ (s.target t).captured = none) ∧
    ((s.target t).phase = .beat → (s.target t).running.isSome = true) ∧
    ((s.target t).phase ≠ .idle → (s.target t).captured.isSome = true)

/-- The accesses of a master that a target leaving service answers, in the order of their answers: those in its queue and
then those waiting in the master's port (R38, R59). -/
def downEnded (s : State) (t : Target) (m : Master) : List Resolved :=
  ((s.target t).queue.filter fun a => a.master == m) ++ (s.port m).waitingFor t

/-- Those of them without a drop mark (R43). -/
def downKept (s : State) (t : Target) (m : Master) : List Resolved :=
  (downEnded s t m).filter fun a => !(s.port m).dropped a.tag

/-- Their answers: TARGET_DOWN with zero data. -/
def downAnswers (s : State) (t : Target) (m : Master) : List Response :=
  (downKept s t m).map fun a => { tag := a.tag, code := .fault .targetDown, data := .zero }

/-- A fault record once reports have been entered in it one after the other (R134). -/
def recordAfter (old : Option FaultRecord) (reports : List FaultReport) : Option FaultRecord :=
  reports.foldl (fun record f => some (enterRecord record f)) old

/-- The number of accesses through a slot in the queue and the waiting lists of a target. -/
def downCount (s : State) (t : Target) (i : Slot) : Nat :=
  (s.target t).queue.countP (fun a => a.slot == i) +
    (allMasters.map fun m => ((s.port m).waitingFor t).countP fun a => a.slot == i).sum

/-! ### The masters -/

/-- R146: a pending set is held with rising ranks, so it holds at most one notice of a kind and key. -/
def NoticesUnique (s : State) : Prop :=
  ∀ m : Master, (s.master m).notices.Pairwise fun a b => a.rank < b.rank

/-- R155, R138: M0 is ONLINE under REPORT. -/
def SupervisorLaw (s : State) : Prop := (s.master 0).state = .online ∧ (s.master 0).policy = .report

/-- R161: an OFFLINE master holds no private window in ACTIVE, OFFERED or LAPSED and is the recipient of no offer, and
(R73) of its commands only READ_FAULT and QUERY_MASTER of itself are in hand. -/
def OfflineLaw (s : State) : Prop :=
  ∀ m : Master, (s.master m).state = .offline →
    (∀ i : Slot, (s.window i).retirableOf m = false ∧ (s.window i).offeredTo m = false) ∧
    ((s.mailbox m).state = .submitted →
      servedOffline m ((s.mailbox m).command.getD 0#8) (s.mailbox m).captured = true) ∧
    ∀ x ∈ s.engine.execution, x.master = m → servedOffline m x.command x.params = true

/-- R69, R74, R80: a mailbox is EXECUTING exactly when the engine executes its captured command and the command is not
orphaned. -/
def MailboxLaw (s : State) : Prop :=
  ∀ m : Master,
    ((s.mailbox m).state = .executing ↔ ∃ x ∈ s.engine.execution, x.master = m ∧ x.orphan = false) ∧
    ∀ x ∈ s.engine.execution, x.master = m → x.orphan = false →
      (s.mailbox m).captured = x.params ∧ (s.mailbox m).command.getD 0#8 = x.command

/-! ### Ranges -/

/-- The ranges of a window record (R2, R4, R120). -/
def WindowInRange (w : Window) : Prop :=
  (∀ p ∈ w.leasePeriod, 1 ≤ p ∧ p ≤ 65535) ∧ w.leaseRemaining ≤ w.leasePeriod.getD 0 ∧ w.graceRemaining ≤ 255 ∧
    ∀ o ∈ w.offer, 1 ≤ o.ticks ∧ o.ticks ≤ 255

/-- The ranges of the settings of a target record (R46). -/
def SettingsInRange (c : TargetSettings) : Prop :=
  c.size ≤ 65536 ∧ 1 ≤ c.wait ∧ c.wait ≤ 31 ∧ c.recovery ≤ 15 ∧ 8 ≤ c.limit ∧ c.limit ≤ 1023

/-- The ranges of a master record (R133, R143, R154). -/
def MasterInRange (r : MasterRecord) : Prop :=
  r.quota ≤ 32 ∧ (∀ f ∈ r.faultRecord, 1 ≤ f.count ∧ f.count ≤ 255) ∧ r.order.Perm defaultOrder

/-- The ranges of the lease timer (R105). -/
def TimerInRange (t : LeaseTimer) : Prop :=
  t.divider ≤ 4095 ∧ t.margin ≤ 255 ∧ t.grace ≤ 255 ∧ t.cycles < (t.divider + 1) * 256

/-- Every field stays in the range its record gives it (R2, R46, R48, R105, R133, R143, R154). -/
def InRange (s : State) : Prop :=
  (∀ i : Slot, WindowInRange (s.window i)) ∧ (∀ m : Master, MasterInRange (s.master m)) ∧
    (∀ t : Target, SettingsInRange (s.target t).settings ∧ (s.target t).queue.length ≤ 8) ∧ TimerInRange s.timer

end Sys2Proof.Safety
end

