-- ==== Sys2Proof/Certificates/Slice0/Obligations.lean ====
section
/-! DEFINITION. The statements for the provers, in the order of the manual's chapters: the step, the master ports and the
resolver, the target ports, the command unit, the commands, the ticks, the resets, and the invariants of every step. A
statement that gives the next state of a command gives it whole, as a change of records of the state before, or names
every record it leaves alone: that is its frame. -/

section

open Sys2Proof Sys2Proof.Machine Sys2Proof.Safety

/-! ### The step and the state after reset -/

/-- A step runs the command at the front of the queue on the state with the queue's rest. The queue is the model's own
(log 1). -/
def Obligations.StepRunsTheFrontCommand : Prop :=
  ∀ (c : Instr) (rest : List Instr) (s : State),
    step { s with pending := c :: rest } = exec c { s with pending := rest }

/-- On an empty queue a step is one fabric clock cycle (the model's choice, log 2): with the device reset input deasserted
a cycle of each target port, TP0 to TP3 (R54, R55), and then one of the prescaler, and with the input asserted no change
(R65, R105). The prescaler counts (divider + 1) × 256 of its cycles to a tick (R105): no earlier one touches anything but
the cycle count, and the last one delivers the tick and returns the count to 0. The row LEASE_TICK
delivers the same tick, here at a cycle count of 0: that it does so at whatever count is the model's choice (log 26). -/
def Obligations.PrescalerTicksAfterDividedCycles : Prop :=
  (∀ s : State, s.pending = [] → step s = .next (fabricCycle s)) ∧
  (∀ s : State,
    (s.drst = false →
      fabricCycle s = timerCycle (targetCycle 3 (targetCycle 2 (targetCycle 1 (targetCycle 0 s))))) ∧
    (s.drst = true → fabricCycle s = s)) ∧
  ∀ s : State, s.timer.cycles = 0 →
    (∀ n < (s.timer.divider + 1) * 256, timerCycle^[n] s = { s with timer := { s.timer with cycles := n } }) ∧
    timerCycle^[(s.timer.divider + 1) * 256] s = tableTick s ∧
    (s.drst = false → exec .leaseTick s = .next (tableTick s))

/-- What the part holds after device reset: the table of R22, the ports of R25, the target records and ports of R46 and
R48, the mailboxes of R68, the engine of R74, the timer of R105, the master records of R154 and the resolver of R28. -/
def Obligations.ResetContentsOfEveryBlock : Prop :=
  State.reset.window 0 =
    { gen := 0#4, state := .active, layer := .common, holder := 0, members := some 0b111111#6, fabricBase := 0,
      length := 256, target := 0, targetBase := 0, rights := 0b101#3, leasePeriod := none, leaseRemaining := 0,
      warned := false, graceRemaining := 0, offer := none, retireNotice := .none, inFlight := 0 } ∧
  (∀ i : Slot, i ≠ 0 → (State.reset.window i).state = .free ∧ (State.reset.window i).gen = 0#4) ∧
  (∀ m : Master,
    (State.reset.master m).state = .online ∧ (State.reset.master m).policy = .report ∧
    (State.reset.master m).disposition = .release ∧ (State.reset.master m).quota = (if m = 0 then 32 else 8) ∧
    (State.reset.master m).faultRecord = none ∧ (State.reset.master m).notices = [] ∧
    (State.reset.master m).order.map NoticeKind.number = [1, 2, 3, 4, 5, 6, 7, 8, 9, 10, 11] ∧
    (State.reset.master m).enables = 0x7FF#11) ∧
  (∀ m : Master,
    (State.reset.port m).outstanding = 0 ∧ (State.reset.port m).unresolved = [] ∧ (State.reset.port m).aperture = [] ∧
    (∀ t : Target, (State.reset.port m).waitingFor t = []) ∧ (State.reset.port m).responses = [] ∧
    (State.reset.port m).reopenWait = false) ∧
  (∀ m : Master,
    (State.reset.mailbox m).state = .empty ∧ (State.reset.mailbox m).command = none ∧
    (State.reset.mailbox m).result = none ∧ ∀ n : Fin 4, (State.reset.mailbox m).live.get n = 0#32 ∧
    (State.reset.mailbox m).captured.get n = 0#32) ∧
  (∀ (m : Master) (n : Fin 3), (State.reset.mailbox m).words.get n = 0#32) ∧
  (∀ t : Target,
    (State.reset.target t).state = (if t = 0 then .online else .offline) ∧
    (State.reset.target t).settings =
      (if t = 0 then { width := .w8, size := 4096, wait := 15, recovery := 3, limit := 1023 }
       else { width := .w32, size := 0, wait := 8, recovery := 2, limit := 255 }) ∧
    (State.reset.target t).queue = [] ∧ (State.reset.target t).running = none ∧
    (State.reset.target t).phase = .idle ∧ (State.reset.target t).pointer = 5) ∧
  State.reset.engine = { execution := none, pointer := 5 } ∧
  State.reset.timer = { divider := 99, margin := 16, grace := 8, cycles := 0 } ∧
  State.reset.resolverPointer = 5

/-- The invariants below hold of the state after reset. -/
def Obligations.InvariantsHoldAtReset : Prop :=
  LawfulWindows State.reset ∧ OfferLaw State.reset ∧ CountedAccesses State.reset ∧ TagsAccounted State.reset ∧
  TargetPortLaw State.reset ∧ NoticesUnique State.reset ∧ SupervisorLaw State.reset ∧ OfflineLaw State.reset ∧
  MailboxLaw State.reset ∧ InRange State.reset

/-! ### The master ports and the resolver (chapter 2) -/

/-- REQUEST_ACCEPTANCE (R26, R27): under the three conditions, and with the device reset input deasserted, the request
joins the tail of the list its page names, its tag is in use and the outstanding count rises by one. While one fails it
is not accepted, and nothing changes. -/
def Obligations.RequestAcceptedUnderThreeConditions : Prop :=
  ∀ (m : Master) (r : Request) (s : State),
    (s.drst = false → (s.port m).lineAsserted = false → (s.port m).reopenWait = false →
      (s.port m).tags[r.tag] = .free →
      ∃ p : MasterPort,
        exec (.requestAcceptance m r) s = .next (s.setPort m p) ∧
        p =
          (if r.addr.toNat / 4096 < 65520 then
            { s.port m with
              tags := (s.port m).tags.set r.tag (.inUse false), unresolved := (s.port m).unresolved ++ [r] }
          else
            { s.port m with
              tags := (s.port m).tags.set r.tag (.inUse false), aperture := (s.port m).aperture ++ [r] }) ∧
        p.outstanding = (s.port m).outstanding + 1) ∧
    ((s.drst = true ∨ (s.port m).lineAsserted = true ∨ (s.port m).reopenWait = true ∨
        (s.port m).tags[r.tag] ≠ .free) →
      exec (.requestAcceptance m r) s = .next s)

/-- RESPONSE_RETURN (R40): the head of the response list is put on the response channel, its tag becomes free and the
outstanding count falls by one. -/
def Obligations.ResponseReturnFreesTheTag : Prop :=
  ∀ (m : Master) (r : Response) (rest : List Response) (s : State), (s.port m).responses = r :: rest →
    ∃ p : MasterPort,
      exec (.responseReturn m) s = .next (s.setPort m p) ∧
      p = { s.port m with tags := (s.port m).tags.set r.tag .free, responses := rest, returned := some r } ∧
      ((s.port m).tags[r.tag] ≠ .free → p.outstanding + 1 = (s.port m).outstanding)

/-- RESOLUTION of a hit (R28, R30, R34): the first presenting port after the pointer has the head of its list taken. The
pointer moves to it, the deciding window counts the access, and the access enters the tail of the port's waiting list for
the window's target with the fields of R34. Byte k of a write is the one on fabric byte position (f + k) mod 4 of its word,
f being the request address (R53; on which bits of a word a position stands is the model's reading, log 12). -/
def Obligations.ResolutionOfAHitCountsAndTranslates : Prop :=
  ∀ (s : State) (m : Master) (r : Request) (rest : List Request) (k : AccessKind) (f : Form) (i : Slot),
    FirstAfter s.resolverPointer (fun n => (s.port n).unresolved ≠ []) m →
    (s.port m).unresolved = r :: rest → (s.master m).state = .online →
    AccessKind.ofCode r.kind.toNat = some k → Form.ofCode r.size.toNat = some f → r.addr.toNat % f.size = 0 →
    decideAccess s m (r.addr.toNat / 4096) k = .hit i →
    exec .resolution s =
      .next
        ((State.setWindow { s with resolverPointer := m } i
            { s.window i with inFlight := (s.window i).inFlight + 1 }).setPort m
          { s.port m with
            unresolved := rest
            waiting := (s.port m).waiting.set (s.window i).target
              ((s.port m).waitingFor (s.window i).target ++
                [{ master := m, tag := r.tag, kind := k, form := f, addr := r.addr, target := (s.window i).target
                   targetAddr :=
                     ((s.window i).targetBase + (r.addr.toNat / 4096 - (s.window i).fabricBase)) * 4096 +
                       r.addr.toNat % 4096
                   slot := i, gen := (s.window i).gen
                   wdata :=
                     if k = .write then
                       (List.range f.size).map fun j =>
                         (r.wdata.getD ((r.addr.toNat % 4 + j) / 4) 0#32).extractLsb'
                           (8 * ((r.addr.toNat + j) % 4)) 8
                     else [] }]) })

/-- RESOLUTION without a hit (R29, R30, R35, R134, R138): a HELD or OFFLINE master's access is answered HELD or DETACHED
and nothing else changes. An ONLINE master's access that fails a step is answered with the fault's code and zero data. In
the same change its report enters the fault record, FAULT is raised, and under HOLD every kind but TARGET_DOWN makes the
master HELD. No window changes. A report that enters an empty record is its first fault, its latest kind and a count of 1.
In a record that is not empty the first fault stays, the kind becomes the latest and the count rises by one, up to 255
(R134). -/
def Obligations.ResolutionWithoutAHitAnswersAtOnce : Prop :=
  (∀ f : FaultReport, enterRecord none f = { first := f, latest := f.kind, count := 1 }) ∧
  (∀ (old : FaultRecord) (f : FaultReport), old.count ≤ 255 →
    enterRecord (some old) f = { first := old.first, latest := f.kind, count := min 255 (old.count + 1) }) ∧
  ∀ (s : State) (m : Master) (r : Request) (rest : List Request),
    FirstAfter s.resolverPointer (fun n => (s.port n).unresolved ≠ []) m →
    (s.port m).unresolved = r :: rest → (s.port m).tags[r.tag] ≠ .inUse true →
    let answered := fun code : RespCode =>
      State.setPort { s with resolverPointer := m } m
        { s.port m with
          unresolved := rest
          responses := (s.port m).responses ++ [{ tag := r.tag, code := code, data := .zero }] }
    let faulted := fun (k : FaultKind) (h : Option Handle) (t : Option Target) =>
      (answered (.fault k)).setMaster m
        { s.master m with
          faultRecord := some (enterRecord (s.master m).faultRecord
            { kind := k, addr := r.addr, accessKind := AccessKind.ofCode r.kind.toNat
              form := Form.ofCode r.size.toNat, handle := h, target := t })
          notices := insertNotice faultNotice (s.master m).notices
          state := if k ≠ .targetDown ∧ (s.master m).policy = .hold then .held else .online }
    ((s.master m).state = .held → exec .resolution s = .next (answered .held)) ∧
    ((s.master m).state = .offline → exec .resolution s = .next (answered .detached)) ∧
    ((s.master m).state = .online →
      ((AccessKind.ofCode r.kind.toNat = none ∨ Form.ofCode r.size.toNat = none ∨
          (∃ f, Form.ofCode r.size.toNat = some f ∧ r.addr.toNat % f.size ≠ 0)) →
        exec .resolution s = .next (faulted .badAccess none none)) ∧
      (∀ k f, AccessKind.ofCode r.kind.toNat = some k → Form.ofCode r.size.toNat = some f →
        r.addr.toNat % f.size = 0 →
        (decideAccess s m (r.addr.toNat / 4096) k = .noWindow →
          exec .resolution s = .next (faulted .noWindow none none)) ∧
        ∀ fk i, decideAccess s m (r.addr.toNat / 4096) k = .refused fk i →
          exec .resolution s =
            .next (faulted fk (some { slot := i, gen := (s.window i).gen }) (some (s.window i).target))))

/-- The decision of steps 2 to 6 (R9, R31 to R33): a live private window of the master over the page decides in every
live state. Without one the common window over the page decides for its members, and others get NOT_MEMBER. Without
either there is NO_WINDOW. The deciding window's rights come before its state, and its state before its target. -/
def Obligations.DecidingWindowAndOrderOfChecks : Prop :=
  ∀ (s : State) (m : Master) (page : Nat) (k : AccessKind), LawfulWindows s →
    let covers := fun i : Slot =>
      (s.window i).state ≠ .free ∧ (s.window i).fabricBase ≤ page ∧
        page < (s.window i).fabricBase + (s.window i).length
    let own := fun i : Slot => covers i ∧ (s.window i).layer = .priv ∧ (s.window i).holder = m
    let shared := fun i : Slot => covers i ∧ (s.window i).layer = .common
    let decided := fun i : Slot =>
      if (s.window i).rights.getLsbD k.code = false then Decision.refused .rights i
      else if (s.window i).state = .lapsed then .refused .lapsed i
      else if (s.window i).state = .draining then .refused .retiring i
      else if (s.target (s.window i).target).state ≠ .online then .refused .targetDown i
      else .hit i
    (∀ i, own i → decideAccess s m page k = decided i) ∧
    ((∀ i, ¬ own i) → ∀ i, shared i →
      decideAccess s m page k =
        (if ∃ set ∈ (s.window i).members, set.getLsbD m.val = true then decided i else .refused .notMember i)) ∧
    ((∀ i, ¬ own i) → (∀ i, ¬ shared i) → decideAccess s m page k = .noWindow)

/-- A master's decisions do not depend on other masters' private windows (R31): two tables that agree on the live common
windows and on the master's own live windows, and on the states of the targets, decide its accesses alike. -/
def Obligations.OtherMastersPrivateWindowsDoNotDecide : Prop :=
  ∀ (s s' : State) (m : Master) (page : Nat) (k : AccessKind),
    let seen := fun (u : State) (i : Slot) =>
      (u.window i).state ≠ .free ∧ ((u.window i).layer = .common ∨ (u.window i).holder = m)
    (∀ i : Slot, seen s i ∨ seen s' i → s.window i = s'.window i) →
    (∀ t : Target, (s.target t).state = (s'.target t).state) →
    decideAccess s m page k = decideAccess s' m page k

/-! ### The target ports (chapter 3) -/

/-- ADMISSION (R49), ACCESS_START (R51) and RECOVERY_END (R55): the arbiter moves the head of the first offering port's
list to the tail of the queue and its pointer to that port. An idle port of an ONLINE target starts the head of its queue
and captures the settings. At the end of a recovery the next beat of the access begins, or the port enters IDLE. That the
row RECOVERY_END is this end at whatever count of cycles is the model's choice (log 26). -/
def Obligations.AdmissionStartAndRecovery : Prop :=
  ∀ (t : Target) (s : State),
    (∀ m a rest, (s.target t).state = .online → (s.target t).queue.length < 8 →
      FirstAfter (s.target t).pointer (fun n => (s.port n).waitingFor t ≠ []) m →
      (s.port m).waitingFor t = a :: rest →
      exec (.admission t) s =
        .next ((s.setPort m { s.port m with waiting := (s.port m).waiting.set t rest }).setTarget t
          { s.target t with queue := (s.target t).queue ++ [a], pointer := m })) ∧
    (∀ a rest, (s.target t).phase = .idle → (s.target t).state = .online → (s.target t).queue = a :: rest →
      exec (.accessStart t) s =
        .next (s.setTarget t
          { s.target t with
            queue := rest, running := some { access := a, beat := 0, bytes := [] }
            captured := some
              { width := (s.target t).settings.width, wait := (s.target t).settings.wait
                recovery := (s.target t).settings.recovery, limit := (s.target t).settings.limit }
            phase := .beat, waitDone := false, count := 0, lanesDropped := false })) ∧
    ((s.target t).phase = .recovery →
      exec (.recoveryEnd t) s =
        .next (s.setTarget t
          (match (s.target t).running with
           | some _ => { s.target t with phase := .beat, waitDone := false, count := 0, lanesDropped := false }
           | none => { s.target t with phase := .idle, waitDone := false, count := 0, captured := none })))

/-- WAIT_COUNT_END and BEAT_END (R54, R56, R57): with ready low the strobe is held. With ready high the beat ends and
recovery begins: with the error input high the access ends TARGET_ERROR at that beat. With it low the access goes on to its
next beat, keeping the bytes of a read, or completes OK after its last one. The bytes of a single read stand on the fabric
byte positions of their addresses, f mod 4 the first, and byte j of word n of a burst is byte 4 n + j of the data (R40, R53;
on which bits of a word a position stands is the model's reading, log 12). That WAIT_COUNT_END is the end of the wait count
at whatever count of cycles is the model's choice (log 26). -/
def Obligations.BeatEndsByReadyAndError : Prop :=
  (∀ bs : List Byte, (wordsOfBytes bs).length = bs.length / 4 ∧
    ∀ n j, n < bs.length / 4 → j < 4 →
      ((wordsOfBytes bs).getD n 0#32).extractLsb' (8 * j) 8 = bs.getD (4 * n + j) 0#8) ∧
  ∀ (t : Target) (s : State) (r : Running) (c : Captured) (error : Bool) (data : Word),
    (s.target t).phase = .beat → (s.target t).running = some r → (s.target t).captured = some c →
    let got := if r.access.kind = .write then r.bytes else r.bytes ++ beatRead r.access c.width r.beat data
    let after := fun run : Option Running =>
      s.setTarget t
        { s.target t with
          lines := { ready := true, error := error, data := data }
          phase := .recovery, waitDone := false, count := 0, running := run }
    let ended :=
      if error = true then endFaulted .targetError r.access (after none)
      else if r.beat + 1 < beatCount r.access.form c.width then
        after (some { access := r.access, beat := r.beat + 1, bytes := got })
      else
        endOk r.access
          (if r.access.kind = .write then .zero
           else if r.access.form ∈ [.single1, .single2, .single4] then
             .bytes (Fin.ofNat 4 (r.access.addr.toNat % 4)) got
           else .words (wordsOfBytes got)) (after none)
    ((s.target t).waitDone = false → exec (.waitCountEnd t true error data) s = .next ended) ∧
    ((s.target t).waitDone = false →
      exec (.waitCountEnd t false error data) s =
        .next (s.setTarget t
          { s.target t with
            lines := { ready := false, error := error, data := data }, waitDone := true, count := 0 })) ∧
    ((s.target t).waitDone = true → exec (.beatEnd t error data) s = .next ended)

/-- The end of an access at its target (R14, R19, R20, R43, R56, R57, R60): the count of its slot falls by one, and a
DRAINING window reaching 0 becomes FREE. Without a drop mark the response joins its master's list and a fault is entered.
With one, the response and the report are discarded, the tag is freed, and a reopen wait ends when nothing is outstanding.
The notice sets gain the WINDOW_RETIRED of a window freed with a retirement notice, at a holder that is not OFFLINE, and the
FAULT of a report entered, and nothing else. No other slot, port or record is reached. -/
def Obligations.EndOfAccessCountsOutAndAnswers : Prop :=
  ∀ (a : Resolved) (s t : State) (code : RespCode) (data : ReadData) (report : Option FaultReport),
    ((code = .ok ∧ report = none ∧ t = endOk a data s) ∨
      (∃ k ∈ [FaultKind.targetError, .targetSilent, .targetDown],
        code = .fault k ∧ data = .zero ∧ t = endFaulted k a s ∧
        report = some
          { kind := k, addr := a.addr, accessKind := some a.kind, form := some a.form
            handle := some { slot := a.slot, gen := a.gen }, target := some a.target })) →
    let w := s.window a.slot
    let p := s.port a.master
    let freed := w.state = .draining ∧ w.inFlight ≤ 1
    let kept := p.tags[a.tag] ≠ .inUse true
    (∀ j, t.window j =
      if j = a.slot then
        if freed then freeWindow (w.gen + 1) else { w with inFlight := w.inFlight - 1 }
      else s.window j) ∧
    (∀ n, (t.master n).notices =
      let l0 := (s.master n).notices
      let l1 :=
        if freed ∧ w.retireNotice ≠ .none ∧ n = w.holder ∧ (s.master n).state ≠ .offline then
          insertNotice { kind := .windowRetired, key := a.slot, gen := w.gen, cause := w.retireNotice } l0
        else l0
      if n = a.master ∧ kept ∧ report.isSome = true then
        insertNotice { kind := .fault, key := 0, gen := 0#4, cause := .none } l1
      else l1) ∧
    (kept → t.port a.master = { p with responses := p.responses ++ [{ tag := a.tag, code := code, data := data }] }) ∧
    (¬ kept → t.port a.master =
      { p with
        tags := p.tags.set a.tag .free
        reopenWait := p.reopenWait && (p.setTag a.tag .free).outstanding != 0 }) ∧
    (∀ n, n ≠ a.master → t.port n = s.port n) ∧
    (∀ n, (t.master n).faultRecord =
      if n = a.master ∧ kept then
        match report with
        | some f => some (enterRecord (s.master n).faultRecord f)
        | none => (s.master n).faultRecord
      else (s.master n).faultRecord) ∧
    (∀ n, (t.master n).state = (s.master n).state ∧ (t.master n).policy = (s.master n).policy ∧
      (t.master n).disposition = (s.master n).disposition ∧ (t.master n).quota = (s.master n).quota ∧
      (t.master n).order = (s.master n).order ∧ (t.master n).enables = (s.master n).enables) ∧
    (∀ g, t.target g = s.target g) ∧ (∀ n, t.mailbox n = s.mailbox n) ∧ t.engine = s.engine ∧ t.timer = s.timer ∧
    t.resolverPointer = s.resolverPointer ∧ t.drst = s.drst ∧ t.pending = s.pending

/-- A target leaving service answers every queued and waiting access (R38, R43, R59): its queue and waiting lists are empty
afterwards and no others change. Each master gets TARGET_DOWN and a report for its queued accesses and then its waiting
ones, in order, without the drop-marked ones, whose tags become free. Every count falls by the accesses answered, and a
DRAINING window reaching 0 becomes FREE with its retirement notice. The notice sets gain FAULT and WINDOW_RETIRED so, and
nothing else. -/
def Obligations.TargetLeavingServiceAnswersItsAccesses : Prop :=
  ∀ (s : State) (t : Target), TagsAccounted s → CountedAccesses s →
    let u := answerDown t s
    let freed := fun i : Slot => (s.window i).state = .draining ∧ downCount s t i = (s.window i).inFlight
    u.target t = { s.target t with queue := [] } ∧ (∀ g, g ≠ t → u.target g = s.target g) ∧
    (∀ m g, (u.port m).waitingFor g = if g = t then [] else (s.port m).waitingFor g) ∧
    (∀ m, (u.port m).responses = (s.port m).responses ++ downAnswers s t m) ∧
    (∀ m k, (u.port m).tags[k] =
      if (s.port m).dropped k = true ∧ (∃ a ∈ downEnded s t m, a.tag = k) then .free else (s.port m).tags[k]) ∧
    (∀ m, (u.port m).unresolved = (s.port m).unresolved ∧ (u.port m).aperture = (s.port m).aperture ∧
      (u.port m).returned = (s.port m).returned ∧ (u.port m).lineAsserted = (s.port m).lineAsserted ∧
      ((u.port m).reopenWait = true ↔ (s.port m).reopenWait = true ∧
        (downKept s t m = downEnded s t m ∨ (u.port m).outstanding ≠ 0))) ∧
    (∀ i, u.window i =
      if freed i then freeWindow ((s.window i).gen + 1)
      else { s.window i with inFlight := (s.window i).inFlight - downCount s t i }) ∧
    (∀ m,
      u.master m =
        { s.master m with
          faultRecord :=
            recordAfter (s.master m).faultRecord ((downKept s t m).map fun a => reportOf a .targetDown)
          notices := (u.master m).notices } ∧
      (downKept s t m ≠ [] → faultNotice ∈ (u.master m).notices)) ∧
    (∀ i, freed i → (s.window i).retireNotice ≠ .none → (s.master (s.window i).holder).state ≠ .offline →
      ({ kind := .windowRetired, key := i, gen := (s.window i).gen, cause := (s.window i).retireNotice } : Notice) ∈
        (u.master (s.window i).holder).notices) ∧
    (NoticesUnique s → ∀ m, SetAfter (s.master m).notices (u.master m).notices
      (fun y =>
        (downKept s t m ≠ [] ∧ y = faultNotice) ∨
        ∃ i, freed i ∧ (s.window i).retireNotice ≠ .none ∧ m = (s.window i).holder ∧ (s.master m).state ≠ .offline ∧
          y = { kind := .windowRetired, key := i, gen := (s.window i).gen, cause := (s.window i).retireNotice })
      (fun _ _ => False)) ∧
    (∀ m, u.mailbox m = s.mailbox m) ∧ u.engine = s.engine ∧ u.timer = s.timer ∧
    u.resolverPointer = s.resolverPointer ∧ u.drst = s.drst ∧ u.pending = s.pending

/-- RESPONSE_TIMER_EXPIRY (R43, R58, R59, R60): the access in progress ends TARGET_SILENT, the target is FAILED and in
recovery, its queue and waiting lists are answered TARGET_DOWN after it, every count falls by the accesses that ended, and
the reports are entered in the same order. Drop-marked accesses give no response and no report: their tags become free, and
a reopen wait ends when nothing is outstanding. The notice sets gain TARGET_FAILED at M0, FAULT and WINDOW_RETIRED. That the
row is the expiry at whatever count the beat has is the model's choice (log 26). -/
def Obligations.ResponseLimitFailsTheTarget : Prop :=
  ∀ (s : State) (t : Target) (r : Running), TagsAccounted s → CountedAccesses s →
    (s.target t).phase = .beat → (s.target t).waitDone = true → (s.target t).running = some r →
    let silent := fun m : Master => r.access.master = m ∧ (s.port m).tags[r.access.tag] ≠ .inUse true
    let ended := fun i : Slot => downCount s t i + if r.access.slot = i then 1 else 0
    let freed := fun i : Slot => (s.window i).state = .draining ∧ ended i = (s.window i).inFlight
    ∃ u : State, exec (.responseTimerExpiry t) s = .next u ∧
      u.target t =
        { s.target t with
          state := .failed, queue := [], running := none, phase := .recovery, waitDone := false, count := 0
          lines := { (s.target t).lines with ready := false } } ∧
      (∀ g, g ≠ t → u.target g = s.target g) ∧
      (∀ m g, (u.port m).waitingFor g = if g = t then [] else (s.port m).waitingFor g) ∧
      (∀ m, (u.port m).responses =
        (s.port m).responses ++
          (if silent m then [{ tag := r.access.tag, code := .fault .targetSilent, data := .zero }] else []) ++
          downAnswers s t m) ∧
      (∀ m k, (u.port m).tags[k] =
        if (s.port m).dropped k = true ∧
            ((r.access.master = m ∧ r.access.tag = k) ∨ ∃ a ∈ downEnded s t m, a.tag = k) then .free
        else (s.port m).tags[k]) ∧
      (∀ m, (u.port m).unresolved = (s.port m).unresolved ∧ (u.port m).aperture = (s.port m).aperture ∧
        (u.port m).returned = (s.port m).returned ∧ (u.port m).lineAsserted = (s.port m).lineAsserted ∧
        ((u.port m).reopenWait = true ↔ (s.port m).reopenWait = true ∧
          ((downKept s t m = downEnded s t m ∧ (r.access.master = m → silent m)) ∨ (u.port m).outstanding ≠ 0))) ∧
      (∀ i, u.window i =
        if freed i then freeWindow ((s.window i).gen + 1)
        else { s.window i with inFlight := (s.window i).inFlight - ended i }) ∧
      (∀ m, u.master m =
        { s.master m with
          faultRecord :=
            recordAfter (s.master m).faultRecord
              ((if silent m then [reportOf r.access .targetSilent] else []) ++
                (downKept s t m).map fun a => reportOf a .targetDown)
          notices := (u.master m).notices }) ∧
      (∀ i, freed i → (s.window i).retireNotice ≠ .none → (s.master (s.window i).holder).state ≠ .offline →
        ({ kind := .windowRetired, key := i, gen := (s.window i).gen, cause := (s.window i).retireNotice } : Notice) ∈
          (u.master (s.window i).holder).notices) ∧
      ({ kind := .targetFailed, key := Fin.ofNat 32 t.val, gen := 0#4, cause := .none } : Notice) ∈
        (u.master 0).notices ∧
      (NoticesUnique s → ∀ m, SetAfter (s.master m).notices (u.master m).notices
        (fun y =>
          (m = 0 ∧ y = { kind := .targetFailed, key := Fin.ofNat 32 t.val, gen := 0#4, cause := .none }) ∨
          ((silent m ∨ downKept s t m ≠ []) ∧ y = faultNotice) ∨
          ∃ i, freed i ∧ (s.window i).retireNotice ≠ .none ∧ m = (s.window i).holder ∧ (s.master m).state ≠ .offline ∧
            y = { kind := .windowRetired, key := i, gen := (s.window i).gen, cause := (s.window i).retireNotice })
        (fun _ _ => False)) ∧
      (∀ m, u.mailbox m = s.mailbox m) ∧ u.engine = s.engine ∧ u.timer = s.timer ∧
      u.resolverPointer = s.resolverPointer ∧ u.drst = s.drst ∧ u.pending = s.pending

/-- Beats and byte lanes (R52, R53, R54 step 1): the beat counts of the table of R52; the address a beat drives, rounded
down to a multiple of w / 8; each byte at target address x on lane x mod (w / 8), zero on the lanes a write does not enable,
and the enables of the bytes written or, on a read or fetch, of every lane of the width. A read beat takes the bytes off the
lanes a write beat puts them on. In BEAT the port drives these with the one strobe of the kind. Outside it no strobe is
asserted, the enables of the lanes the width does not use stay low, and every enable is low where a device reset dropped them
and no beat has begun since (R65). That this width is the captured one where there is one, else the record's, and that the
dropped enables stay low until a beat are the model's reading (log 27). -/
def Obligations.BeatsDriveTheLanesOfTheirBytes : Prop :=
  ([Form.single1, .single2, .single4, .burst2, .burst4, .burst8].map fun f =>
      (beatCount f .w8, beatCount f .w16, beatCount f .w32)) =
    [(1, 1, 1), (2, 1, 1), (4, 2, 1), (8, 4, 2), (16, 8, 4), (32, 16, 8)] ∧
  (∀ (a : Resolved) (w : Width) (n : Nat),
    let lanes := match w with
      | .w8 => 1
      | .w16 => 2
      | .w32 => 4
    let per := match a.form with
      | .single1 => 1
      | .single2 => min 2 lanes
      | _ => lanes
    let x := fun k : Nat => a.targetAddr + n * per + k
    beatAddress a w n = x 0 - x 0 % lanes ∧
    (∀ l < 4, (beatLanes a w n).getLsbD l = true ↔
      if a.kind = .write then ∃ k < per, x k % lanes = l else l < lanes) ∧
    (∀ k < per, (beatWrite a w n).extractLsb' (8 * (x k % lanes)) 8 = a.wdata.getD (n * per + k) 0#8) ∧
    (∀ l < 4, (∀ k < per, x k % lanes ≠ l) → (beatWrite a w n).extractLsb' (8 * l) 8 = 0#8) ∧
    (∀ data : Word, beatRead a w n data =
      (List.range per).map fun k => data.extractLsb' (8 * (x k % lanes)) 8) ∧
    beatRead a w n (beatWrite a w n) = (List.range per).map fun k => a.wdata.getD (n * per + k) 0#8) ∧
  ∀ p : TargetPort,
    (p.phase ≠ .beat →
      p.drive.readStrobe = false ∧ p.drive.writeStrobe = false ∧
      (p.lanesDropped = true → ∀ l : Fin 4, p.drive.lanes[l] = .low) ∧
      (∀ l : Fin 4, ((p.captured.map Captured.width).getD p.settings.width).bytes ≤ l.val → p.drive.lanes[l] = .low)) ∧
    ∀ (r : Running) (c : Captured), p.phase = .beat → p.running = some r → p.captured = some c →
      p.drive.address = some (beatAddress r.access c.width r.beat) ∧
      (r.access.kind = .write → p.drive.data = some (beatWrite r.access c.width r.beat)) ∧
      (∀ l : Fin 4, p.drive.lanes[l] = if (beatLanes r.access c.width r.beat).getLsbD l.val then .high else .low) ∧
      p.drive.readStrobe = decide (r.access.kind ≠ .write) ∧ p.drive.writeStrobe = decide (r.access.kind = .write)

/-- Beat timing (R54, R55), cycle by cycle as the model's empty queue counts them (log 2): a beat holds for its wait count
without looking at ready. At its end a high ready ends the beat at once. A low one is counted, and after the response limit
the timer expires. After a beat the strobes stay low for the captured recovery cycles, and then the next beat begins or the
port enters IDLE. With recovery 0 it does so in the cycle that ends the beat, so the next cycle is the next beat's. The rows
WAIT_COUNT_END, BEAT_END and RESPONSE_TIMER_EXPIRY have the effects the cycles reach: that the first and the last have them
at whatever count, here 0, is the model's choice (log 26). -/
def Obligations.BeatTimingByFabricCycles : Prop :=
  (∀ (t : Target) (s : State) (r : Running) (c : Captured),
    (s.target t).phase = .beat → (s.target t).running = some r → (s.target t).captured = some c →
    (s.target t).count = 0 →
    let recovered := fun u : State =>
      if c.recovery = 0 then
        u.setTarget t
          (match (u.target t).running with
           | some _ => { u.target t with phase := .beat, waitDone := false, count := 0, lanesDropped := false }
           | none => { u.target t with phase := .idle, waitDone := false, count := 0, captured := none })
      else u
    ((s.target t).waitDone = false → 1 ≤ c.wait →
      (∀ n < c.wait, (targetCycle t)^[n] s = s.setTarget t { s.target t with count := n }) ∧
      ((s.target t).lines.ready = true →
        exec (.waitCountEnd t true (s.target t).lines.error (s.target t).lines.data) s =
          .next (endBeat t (s.target t).lines.error (s.target t).lines.data s) ∧
        (targetCycle t)^[c.wait] s = recovered (endBeat t (s.target t).lines.error (s.target t).lines.data s)) ∧
      ((s.target t).lines.ready = false →
        (targetCycle t)^[c.wait] s = s.setTarget t { s.target t with waitDone := true, count := 0 })) ∧
    ((s.target t).waitDone = true → 2 ≤ c.limit →
      ((s.target t).lines.ready = true →
        exec (.beatEnd t (s.target t).lines.error (s.target t).lines.data) s =
          .next (endBeat t (s.target t).lines.error (s.target t).lines.data s) ∧
        targetCycle t s = recovered (endBeat t (s.target t).lines.error (s.target t).lines.data s)) ∧
      ((s.target t).lines.ready = false →
        (∀ n < c.limit, (targetCycle t)^[n] s = s.setTarget t { s.target t with count := n }) ∧
        exec (.responseTimerExpiry t) s = .next (responseTimerExpires t s) ∧
        (targetCycle t)^[c.limit] s = recovered (responseTimerExpires t s)))) ∧
  ∀ (t : Target) (s : State) (c : Captured),
    (s.target t).phase = .recovery → (s.target t).captured = some c → (s.target t).count = 0 →
    let after := s.setTarget t
      (match (s.target t).running with
       | some _ => { s.target t with phase := .beat, waitDone := false, count := 0, lanesDropped := false }
       | none => { s.target t with phase := .idle, waitDone := false, count := 0, captured := none })
    (1 ≤ c.recovery →
      (∀ n < c.recovery, (targetCycle t)^[n] s = s.setTarget t { s.target t with count := n }) ∧
      (targetCycle t)^[c.recovery] s = after) ∧
    (c.recovery = 0 →
      ((s.target t).running = none → targetCycle t s = after) ∧
      ((s.target t).running.isSome = true → targetCycle t s = targetCycle t after))

/-! ### The command unit (chapter 4) -/

/-- PARAMETER_WRITE (R70) and APERTURE_ACCESS_TAKING of a read (R66, R72): the head of the aperture list is taken and
answered OK. A write replaces one live parameter word of the port's own mailbox. A read returns the live parameter word,
the status word, the result word or the identification word, and changes nothing else. -/
def Obligations.ParameterWritesAndApertureReads : Prop :=
  ∀ (m : Master) (r : Request) (rest : List Request) (s : State),
    (s.port m).aperture = r :: rest → (s.port m).tags[r.tag] ≠ .inUse true → r.size = 2#3 →
    let answered := fun data : ReadData =>
      s.setPort m
        { s.port m with
          aperture := rest, responses := (s.port m).responses ++ [{ tag := r.tag, code := .ok, data := data }] }
    (∀ (n : Fin 4) (w : Word), r.kind = 1#2 → r.addr.toNat = 0xFFF0004 + 4 * n.val → r.wdata = [w] →
      exec (.parameterWrite m) s =
        .next ((answered .zero).setMailbox m { s.mailbox m with live := (s.mailbox m).live.set n w })) ∧
    (r.kind = 0#2 →
      (∀ n : Fin 4, r.addr.toNat = 0xFFF0004 + 4 * n.val →
        exec (.apertureAccessTaking m) s = .next (answered (.words [(s.mailbox m).live.get n]))) ∧
      (r.addr.toNat = 0xFFF0020 →
        exec (.apertureAccessTaking m) s =
          .next (answered (.words [statusWord (s.mailbox m) (s.master m)]))) ∧
      (∀ n : Fin 3, r.addr.toNat = 0xFFF0024 + 4 * n.val →
        exec (.apertureAccessTaking m) s = .next (answered (.words [(s.mailbox m).words.get n]))) ∧
      (r.addr.toNat = 0xFFF0040 →
        exec (.apertureAccessTaking m) s =
          .next (answered (.words [0x06322010#32 ||| BitVec.ofNat 32 m.val]))))

/-- COMMAND_SUBMISSION (R71, R73): in EMPTY or DONE the written identity and the live parameters are captured and the
result cleared. The mailbox goes to SUBMITTED, or straight to DONE with DETACHED for an OFFLINE master whose command is
neither READ_FAULT nor QUERY_MASTER of itself. In SUBMITTED or EXECUTING the write is refused MAILBOX_BUSY: the mailbox is
unchanged, and the report enters the record without a hold. -/
def Obligations.SubmissionCapturesOrIsBusy : Prop :=
  ∀ (m : Master) (r : Request) (rest : List Request) (w : Word) (s : State),
    (s.port m).aperture = r :: rest → (s.port m).tags[r.tag] ≠ .inUse true →
    r.kind = 1#2 → r.size = 2#3 → r.addr.toNat = 0xFFF0000 → r.wdata = [w] →
    let answered := fun code : RespCode =>
      s.setPort m
        { s.port m with
          aperture := rest, responses := (s.port m).responses ++ [{ tag := r.tag, code := code, data := .zero }] }
    let served := w.toNat % 256 = 16 ∨ (w.toNat % 256 = 23 ∧ (s.mailbox m).live.p0 = BitVec.ofNat 32 m.val)
    let refused := (s.master m).state = .offline ∧ ¬ served
    ((s.mailbox m).state = .empty ∨ (s.mailbox m).state = .done →
      exec (.commandSubmission m) s =
        .next ((answered .ok).setMailbox m
          { state := if refused then .done else .submitted
            live := (s.mailbox m).live
            command := some (BitVec.ofNat 8 w.toNat)
            captured := (s.mailbox m).live
            result := if refused then some .detached else none
            words := { w0 := 0#32, w1 := 0#32, w2 := 0#32 } })) ∧
    ((s.mailbox m).state = .submitted ∨ (s.mailbox m).state = .executing →
      exec (.commandSubmission m) s =
        .next ((answered (.fault .mailboxBusy)).setMaster m
          { s.master m with
            faultRecord := some (enterRecord (s.master m).faultRecord
              { kind := .mailboxBusy, addr := r.addr, accessKind := some .write, form := some .single4
                handle := none, target := none })
            notices := insertNotice faultNotice (s.master m).notices }))

/-- An aperture access that fails one of the checks of R67 is answered APERTURE_FORMAT. That each of the three rows of the
table takes it is the model's choice (log 13), since 95_what_each_step_holds.md lists the fault entry within all three. Its
report enters the record without handle or target, FAULT is raised, and neither the mailbox nor the
master's state changes. -/
def Obligations.MalformedApertureAccessIsAFormatFault : Prop :=
  ∀ (m : Master) (r : Request) (rest : List Request) (s : State),
    (s.port m).aperture = r :: rest → (s.port m).tags[r.tag] ≠ .inUse true → 0xFFF0000 ≤ r.addr.toNat →
    ((r.kind ≠ 0#2 ∧ r.kind ≠ 1#2) ∨ r.size ≠ 2#3 ∨ r.addr.toNat % 4 ≠ 0 ∨
      r.addr.toNat - 0xFFF0000 ∉ [0x00, 0x04, 0x08, 0x0C, 0x10, 0x20, 0x24, 0x28, 0x2C, 0x40] ∨
      (r.kind = 0#2 ∧ r.addr.toNat = 0xFFF0000) ∨
      (r.kind = 1#2 ∧ r.addr.toNat - 0xFFF0000 ∈ [0x20, 0x24, 0x28, 0x2C, 0x40])) →
    ∀ c ∈ [Instr.parameterWrite m, .commandSubmission m, .apertureAccessTaking m],
      exec c s =
        .next
          ((s.setPort m
            { s.port m with
              aperture := rest
              responses := (s.port m).responses ++
                [{ tag := r.tag, code := .fault .apertureFormat, data := .zero }] }).setMaster m
            { s.master m with
              faultRecord := some (enterRecord (s.master m).faultRecord
                { kind := .apertureFormat, addr := r.addr, accessKind := AccessKind.ofCode r.kind.toNat
                  form := Form.ofCode r.size.toNat, handle := none, target := none })
              notices := insertNotice faultNotice (s.master m).notices })

/-- ENGINE_GRANT (R74): an IDLE engine takes the captured command and parameters of the first SUBMITTED mailbox after its
pointer, which goes to EXECUTING, and moves the pointer to it. A BUSY engine grants nothing. -/
def Obligations.GrantTakesTheFirstSubmittedMailbox : Prop :=
  ∀ (s : State) (m : Master),
    (s.engine.execution = none → FirstAfter s.engine.pointer (fun n => (s.mailbox n).state = .submitted) m →
      exec .engineGrant s =
        .next
          { s.setMailbox m { s.mailbox m with state := .executing } with
            engine :=
              { execution := some
                  { master := m, command := (s.mailbox m).command.getD 0#8, params := (s.mailbox m).captured
                    orphan := false }
                pointer := m } }) ∧
    (s.engine.execution.isSome = true → exec .engineGrant s = .next s)

/-- Every completion (R75, R77, R78, R80): a command of R76 in execution completes, the engine becomes IDLE with its
pointer kept, and the result and its words reach the mailbox, or nothing does when the command is orphaned. A code that is
no success code leaves every other record as it was and the words zero. An identity that names no command is refused
BAD_COMMAND. -/
def Obligations.RefusedCommandChangesNothingElse : Prop :=
  (∀ (id : CmdId) (x : Execution) (s : State), Executing s x id →
    ∃ (u : State) (code : ResultCode) (words : ResultWords),
      exec (completion id) s = .next (finish x { state := u, code := code, words := words }) ∧
      (¬ succeeded code → u = s ∧ words = { w0 := 0#32, w1 := 0#32, w2 := 0#32 })) ∧
  (∀ (x : Execution) (s : State), s.engine.execution = some x → CmdId.ofCode x.command.toNat = none →
    exec .badCommand s =
      .next (finish x { state := s, code := .badCommand, words := { w0 := 0#32, w1 := 0#32, w2 := 0#32 } })) ∧
  ∀ (x : Execution) (u : State) (code : ResultCode) (words : ResultWords),
    finish x { state := u, code := code, words := words } =
      (if x.orphan = true then { u with engine := { u.engine with execution := none } }
       else
        ({ u with engine := { u.engine with execution := none } } : State).setMailbox x.master
          { u.mailbox x.master with state := .done, result := some code, words := words })

/-- A command in execution is refused with the code of the first of its checks that fails, in the order of R77 and of its
own rule, and completes with a success code when none does: the checks of R61 to R64, R76, R84, R87, R90, R92, R94, R96,
R98, R106, R114, R121, R123 to R125, R141, R149, R150, R156, R157, R159 and R162. The eleven supervisor-only commands of R76
are refused NOT_SUPERVISOR to every master but M0, before any other check. -/
def Obligations.CommandsAreRefusedByTheFirstFailingCheck : Prop :=
  (∀ (id : CmdId) (x : Execution) (s : State), Executing s x id →
    (∀ code, RefusedWith (refusals id x.master x.params s) code →
      exec (completion id) s =
        .next (finish x { state := s, code := code, words := { w0 := 0#32, w1 := 0#32, w2 := 0#32 } })) ∧
    ((∀ check ∈ refusals id x.master x.params s, ¬ check.1) →
      ∃ (u : State) (code : ResultCode) (words : ResultWords), succeeded code ∧
        exec (completion id) s = .next (finish x { state := u, code := code, words := words }))) ∧
  ∀ id ∈ supervisorOnly, ∀ (x : Execution) (s : State), Executing s x id → x.master ≠ 0 →
    exec (completion id) s =
      .next (finish x { state := s, code := .notSupervisor, words := { w0 := 0#32, w1 := 0#32, w2 := 0#32 } })

/-- Parameter words (R166, R167, R168): the words that hold given operands in the fields of R168 pass the range check and
are read back as those operands, and a handle word passes exactly when it is the word of its handle. The identities of R167
number the commands 1 to 29, no other value names one, and the parameter fields have the codes of R166. -/
def Obligations.ParameterWordsHoldTheirOperands : Prop :=
  (∀ n : Nat, CmdId.ofCode n =
    [CmdId.claim, .claimCommon, .extend, .release, .revoke, .setMembers, .query, .queryAddress, .findHeld, .renew,
     .setLeaseClock, .offer, .withdraw, .accept, .decline, .readFault, .clearFault, .releaseHold, .takeNotice,
     .setNoticeOrder, .setNoticeEnable, .setMaster, .queryMaster, .detach, .attach, .setTarget, .targetOnline,
     .targetOffline, .queryTarget][n - 1]?.filter fun _ => n ≠ 0) ∧
  (∀ n : Nat,
    AccessKind.ofCode n = [AccessKind.read, .write, .fetch][n]? ∧
    Form.ofCode n = [Form.single1, .single2, .single4, .burst2, .burst4, .burst8][n]? ∧
    Width.ofCode n = [Width.w8, .w16, .w32][n]?) ∧
  [Form.single1, .single2, .single4, .burst2, .burst4, .burst8].map Form.size = [1, 2, 4, 8, 16, 32] ∧
  (∀ width lo v : Nat, lo + width ≤ 32 → (field width lo v).toNat = v % 2 ^ width * 2 ^ lo) ∧
  (∀ h : Handle, (handleWord h).toNat = h.slot.val + h.gen.toNat * 2 ^ 8) ∧
  (∀ o : List NoticeKind, o.Perm defaultOrder →
    (orderWord0 o).toNat + (orderWord1 o).toNat * 2 ^ 32 = Nat.ofDigits 16 (o.map NoticeKind.number)) ∧
  [FaultPolicy.report, .hold].map FaultPolicy.code = [0, 1] ∧
  [Disposition.release, .keep].map Disposition.code = [0, 1] ∧
  [NoticeKind.fault, .targetFailed, .windowRevoked, .leaseLapsed, .leaseWarning, .offerReceived, .offerWithdrawn,
   .offerAccepted, .offerDeclined, .offerExpired, .windowRetired].map NoticeKind.number =
    [1, 2, 3, 4, 5, 6, 7, 8, 9, 10, 11] ∧
  (∀ w : Word, handleInRange w = true ↔ w = handleWord (handleOf w)) ∧
  (∀ h : Handle, handleOf (handleWord h) = h) ∧
  (∀ (base length targetBase lease : Nat) (t : Target) (rights : BitVec 3) (members : BitVec 6) (p : Params),
    base < 65536 → length < 65536 → 1 ≤ length → targetBase < 65536 → lease < 65536 →
    p =
      { p0 := field 16 0 base, p1 := field 16 0 length
        p2 := field 16 0 targetBase ||| field 2 16 t.val ||| field 3 20 rights.toNat
        p3 := field 16 0 lease ||| field 6 16 members.toNat } →
    claimCommonInRange p = true ∧ (claimInRange p = true ↔ members = 0#6) ∧ claimBase p = base ∧
      claimLength p = length ∧ claimTargetBase p = targetBase ∧ claimTarget p = t ∧ claimRights p = rights ∧
      claimLease p = lease ∧ claimMembers p = members) ∧
  (∀ (h : Handle) (n : Master) (ticks : Nat) (p : Params), 1 ≤ ticks → ticks < 256 →
    p.p0 = handleWord h → p.p1 = field 3 0 n.val ||| field 8 8 ticks →
    offerInRange p = true ∧ recipientParam p = n ∧ offerTicks p = ticks) ∧
  (∀ (n : Master) (quota : Nat) (f : FaultPolicy) (d : Disposition) (p : Params), quota ≤ 32 →
    p.p0 = field 3 0 n.val → p.p1 = field 6 0 quota ||| field 1 8 f.code ||| field 1 9 d.code →
    (setMasterInRange p = true ↔ ¬(n = 0 ∧ f = .hold)) ∧ masterParam p.p0 = n ∧ quotaParam p = quota ∧
      policyParam p = f ∧ dispositionParam p = d) ∧
  (∀ (t : Target) (c : TargetSettings) (p : Params), SettingsInRange c →
    p.p0 = field 2 0 t.val → p.p1 = field 17 0 c.size ||| field 2 20 c.width.code →
    p.p2 = field 5 0 c.wait ||| field 4 8 c.recovery ||| field 10 16 c.limit →
    setTargetInRange p = true ∧ targetParam p.p0 = t ∧ settingsParam p = some c) ∧
  (∀ (o : List NoticeKind) (p : Params), o.Perm defaultOrder → p.p0 = orderWord0 o → p.p1 = orderWord1 o →
    noticeOrderInRange p = true ∧ orderParam p = o)

/-- Words that a master reads (R166, R167, R169, R170): each field of the status word, of the notice word and of the
window summary stands at the bits the layout gives it, and the items have the codes of R132, R166, R167 and R170. -/
def Obligations.ReadWordsHoldTheirFields : Prop :=
  [ResultCode.done, .doneLate, .doneDraining, .empty, .badCommand, .badParam, .notSupervisor, .detached, .staleHandle,
   .notHolder, .wrongLayer, .wrongState, .quota, .noSlot, .overlapFabric, .overlapTarget, .outOfTarget, .aperture,
   .notOffered, .recipient, .self, .targetBusy].map ResultCode.code =
    [1, 2, 3, 4, 5, 6, 7, 8, 9, 10, 11, 12, 13, 14, 15, 16, 17, 18, 19, 20, 21, 22] ∧
  [FaultKind.noWindow, .notMember, .rights, .lapsed, .retiring, .targetDown, .targetSilent, .targetError, .badAccess,
   .apertureFormat, .mailboxBusy].map FaultKind.code = [1, 2, 3, 4, 5, 6, 7, 8, 9, 10, 11] ∧
  (RespCode.ok.code = 0 ∧ RespCode.held.code = 14 ∧ RespCode.detached.code = 15 ∧
    ∀ k : FaultKind, (RespCode.fault k).code = k.code) ∧
  [AccessKind.read, .write, .fetch].map AccessKind.code = [0, 1, 2] ∧
  [Form.single1, .single2, .single4, .burst2, .burst4, .burst8].map Form.code = [0, 1, 2, 3, 4, 5] ∧
  [WinState.active, .offered, .lapsed, .draining].map WinState.code = [1, 2, 3, 4] ∧
  [Layer.priv, .common].map Layer.code = [0, 1] ∧
  [RetireNotice.none, .drainDone, .graceExpired].map RetireNotice.code = [0, 1, 2] ∧
  [MailboxState.empty, .submitted, .executing, .done].map MailboxState.code = [0, 1, 2, 3] ∧
  [MasterState.online, .held, .offline].map MasterState.code = [0, 1, 2] ∧
  [TargetState.offline, .online, .failed].map TargetState.code = [0, 1, 2] ∧
  [Width.w8, .w16, .w32].map Width.code = [0, 1, 2] ∧
  (∀ (w : Word) (hi lo : Nat), lo ≤ hi → bits w hi lo = w.toNat / 2 ^ lo % 2 ^ (hi + 1 - lo)) ∧
  (∀ (b : Mailbox) (r : MasterRecord) (w : Word), r.notices.length ≤ 293 → w = statusWord b r →
    bits w 1 0 = b.state.code ∧ bits w 3 2 = r.state.code ∧
    bits w 8 4 = (if b.state = .done then (b.result.map ResultCode.code).getD 0 else 0) ∧
    bits w 16 9 = (b.command.map BitVec.toNat).getD 0 ∧ bits w 25 17 = r.notices.length ∧ bits w 31 26 = 0) ∧
  (∀ (n : Notice) (w : Word), w = noticeWord n →
    bits w 4 0 = n.key.val ∧ bits w 11 8 = n.gen.toNat ∧ bits w 19 16 = n.kind.number ∧
    bits w 21 20 = n.cause.code ∧ bits w 7 5 = 0 ∧ bits w 15 12 = 0 ∧ bits w 31 22 = 0) ∧
  (∀ (i : Slot) (v : Window) (w : Word), w = windowSummary i v →
    bits w 4 0 = i.val ∧ bits w 11 8 = v.gen.toNat ∧ bits w 14 12 = v.state.code ∧ bits w 15 15 = v.layer.code ∧
    bits w 18 16 = v.holder.val ∧ bits w 20 19 = v.target.val ∧ bits w 23 21 = v.rights.toNat ∧
    bits w 24 24 = (if v.warned = true then 1 else 0) ∧ bits w 26 25 = v.retireNotice.code ∧
    bits w 27 27 = (if v.offer.isSome = true then 1 else 0) ∧
    bits w 30 28 = (v.offer.map fun o => o.recipient.val).getD 0 ∧ bits w 31 31 = 0)

/-! ### The window commands (chapter 5) -/

/-- CLAIM (R84, R85): when every check holds, the lowest FREE slot takes a private ACTIVE window of the asking master with
the fields given and a full lease, at the generation the slot held. The result is DONE with its handle. -/
def Obligations.ClaimTakesTheLowestFreeSlot : Prop :=
  ∀ (s : State) (x : Execution) (i : Slot), Executing s x .claim →
    claimInRange x.params = true → claimLease x.params ≠ 0 → claimRights x.params ≠ 0#3 →
    claimBase x.params + claimLength x.params ≤ 65520 →
    s.heldPrivate x.master < (s.master x.master).quota →
    (∀ j, (s.window j).live = true → (s.window j).layer = .priv → (s.window j).holder = x.master →
      Apart (claimBase x.params) (claimLength x.params) (s.window j).fabricBase (s.window j).length) →
    claimTargetBase x.params + claimLength x.params ≤ (s.target (claimTarget x.params)).settings.size →
    (∀ j, (s.window j).live = true → (s.window j).target = claimTarget x.params →
      Apart (claimTargetBase x.params) (claimLength x.params) (s.window j).targetBase (s.window j).length) →
    (s.window i).state = .free → (∀ j, j < i → (s.window j).state ≠ .free) →
    exec .claim s =
      .next (finish x
        { state := s.setWindow i
            { gen := (s.window i).gen, state := .active, layer := .priv, holder := x.master, members := none
              fabricBase := claimBase x.params, length := claimLength x.params, target := claimTarget x.params
              targetBase := claimTargetBase x.params, rights := claimRights x.params
              leasePeriod := some (claimLease x.params), leaseRemaining := claimLease x.params, warned := false
              graceRemaining := 0, offer := none, retireNotice := .none, inFlight := 0 }
          code := .done
          words := { w0 := handleWord { slot := i, gen := (s.window i).gen }, w1 := 0#32, w2 := 0#32 } })

/-- CLAIM_COMMON (R87): M0 creates a common window in the lowest FREE slot, with the member set given and with or without
a lease, whatever private windows cover the same fabric pages and whatever M0's quota. -/
def Obligations.ClaimCommonMakesACommonWindow : Prop :=
  ∀ (s : State) (x : Execution) (i : Slot), Executing s x .claimCommon → x.master = 0 →
    claimCommonInRange x.params = true → claimRights x.params ≠ 0#3 →
    claimBase x.params + claimLength x.params ≤ 65520 →
    (∀ j, (s.window j).live = true → (s.window j).layer = .common →
      Apart (claimBase x.params) (claimLength x.params) (s.window j).fabricBase (s.window j).length) →
    claimTargetBase x.params + claimLength x.params ≤ (s.target (claimTarget x.params)).settings.size →
    (∀ j, (s.window j).live = true → (s.window j).target = claimTarget x.params →
      Apart (claimTargetBase x.params) (claimLength x.params) (s.window j).targetBase (s.window j).length) →
    (s.window i).state = .free → (∀ j, j < i → (s.window j).state ≠ .free) →
    exec .claimCommon s =
      .next (finish x
        { state := s.setWindow i
            { gen := (s.window i).gen, state := .active, layer := .common, holder := 0
              members := some (claimMembers x.params)
              fabricBase := claimBase x.params, length := claimLength x.params, target := claimTarget x.params
              targetBase := claimTargetBase x.params, rights := claimRights x.params
              leasePeriod := if claimLease x.params = 0 then none else some (claimLease x.params)
              leaseRemaining := claimLease x.params, warned := false
              graceRemaining := 0, offer := none, retireNotice := .none, inFlight := 0 }
          code := .done
          words := { w0 := handleWord { slot := i, gen := (s.window i).gen }, w1 := 0#32, w2 := 0#32 } })

/-- EXTEND (R90, R91): an ACTIVE window of the asking master, or a common one for M0, grows by the pages given when the
added pages end below the aperture, meet no other window of its layer and holder, lie in the target, and are mapped by no
other window. Only its length changes. -/
def Obligations.ExtendGrowsOnlyTheLength : Prop :=
  ∀ (s : State) (x : Execution) (i : Slot) (w : Window), Executing s x .extend →
    extendInRange x.params = true → handleOf x.params.p0 = { slot := i, gen := w.gen } → s.window i = w →
    w.state = .active → x.master = (if w.layer = .priv then w.holder else 0) →
    w.fabricBase + w.length + extendPages x.params ≤ 65520 →
    (∀ j, j ≠ i → (s.window j).live = true → (s.window j).layer = w.layer →
      (w.layer = .priv → (s.window j).holder = w.holder) →
      Apart (w.fabricBase + w.length) (extendPages x.params) (s.window j).fabricBase (s.window j).length) →
    w.targetBase + w.length + extendPages x.params ≤ (s.target w.target).settings.size →
    (∀ j, j ≠ i → (s.window j).live = true → (s.window j).target = w.target →
      Apart (w.targetBase + w.length) (extendPages x.params) (s.window j).targetBase (s.window j).length) →
    exec .extend s =
      .next (finish x
        { state := s.setWindow i { w with length := w.length + extendPages x.params }
          code := .done
          words :=
            { w0 := handleWord { slot := i, gen := w.gen }, w1 := field 16 0 (w.length + extendPages x.params)
              w2 := 0#32 } })

/-- RELEASE (R92, R93) by the holder and REVOKE (R94) by M0: a window in ACTIVE, OFFERED or LAPSED is retired with the
command's cause. The result is DONE when nothing was in flight and DONE_DRAINING otherwise, with the handle and the
in-flight count the window had. -/
def Obligations.ReleaseAndRevokeRetireTheWindow : Prop :=
  ∀ (s : State) (x : Execution) (i : Slot) (w : Window),
    handleInRange x.params.p0 = true → handleOf x.params.p0 = { slot := i, gen := w.gen } → s.window i = w →
    (w.state = .active ∨ w.state = .offered ∨ w.state = .lapsed) →
    let retired := fun cause : RetireCause =>
      finish x
        { state := retire cause i s
          code := if w.inFlight = 0 then .done else .doneDraining
          words := { w0 := handleWord { slot := i, gen := w.gen }, w1 := field 5 0 w.inFlight, w2 := 0#32 } }
    (Executing s x .release → x.master = w.holder → exec .release s = .next (retired .release)) ∧
    (Executing s x .revoke → x.master = 0 → exec .revoke s = .next (retired .revoke))

/-- Retirement (R16, R17, R20): an offer is withdrawn, the countdowns are cleared, and the window is FREE at its next
generation when nothing was in flight and DRAINING with the retirement notice of its cause otherwise. A FREE slot keeps its
generation and has every other field cleared (R4). The sets gain and lose exactly the notices of R16 and R17, and no other
record changes. -/
def Obligations.RetirementFollowsItsCause : Prop :=
  (∀ g : Gen, ∃ (layer : Layer) (holder : Master) (target : Target),
    freeWindow g =
      { gen := g, state := .free, layer := layer, holder := holder, members := none, fabricBase := 0, length := 0
        target := target, targetBase := 0, rights := 0#3, leasePeriod := none, leaseRemaining := 0, warned := false
        graceRemaining := 0, offer := none, retireNotice := .none, inFlight := 0 }) ∧
  ∀ (s : State) (i : Slot) (c : RetireCause),
    let w := s.window i
    let t := retire c i s
    let note := fun k : NoticeKind => ({ kind := k, key := i, gen := w.gen, cause := .none } : Notice)
    (t.window i =
      if w.inFlight = 0 then freeWindow (w.gen + 1)
      else
        { w with
          state := .draining, leaseRemaining := 0, warned := false, graceRemaining := 0, offer := none
          retireNotice :=
            match c with
            | .release => .drainDone
            | .masterReset => .drainDone
            | .revoke => .none
            | .detach => .none
            | .leaseZero => .graceExpired
            | .graceZero => .graceExpired }) ∧
    (∀ j, j ≠ i → t.window j = s.window j) ∧
    (∀ m,
      let l0 := (s.master m).notices
      let l1 :=
        match w.offer with
        | some o =>
          if o.recipient = m then insertNotice (note .offerWithdrawn) (dropNotice .offerReceived i l0) else l0
        | none => l0
      let l2 :=
        if m = w.holder ∧ ((c = .revoke ∧ m ≠ 0) ∨ c = .detach) then insertNotice (note .windowRevoked) l1 else l1
      let l3 :=
        if m = w.holder ∧ w.inFlight = 0 ∧ (c = .leaseZero ∨ c = .graceZero) ∧ (s.master m).state ≠ .offline then
          insertNotice { kind := .windowRetired, key := i, gen := w.gen, cause := .graceExpired } l2
        else l2
      t.master m = { s.master m with notices := l3 }) ∧
    (∀ m, t.port m = s.port m) ∧ (∀ m, t.mailbox m = s.mailbox m) ∧ (∀ g, t.target g = s.target g) ∧
    t.engine = s.engine ∧ t.timer = s.timer ∧ t.resolverPointer = s.resolverPointer ∧ t.drst = s.drst ∧
    t.pending = s.pending

/-- SET_MEMBERS (R96): M0 replaces the member set of an ACTIVE or LAPSED common window. Nothing else changes and no
notice is raised, and the set before is returned. Another master is refused NOT_SUPERVISOR, a private window WRONG_LAYER
and a DRAINING one WRONG_STATE. -/
def Obligations.SetMembersReplacesTheSet : Prop :=
  ∀ (s : State) (x : Execution) (i : Slot) (w : Window), Executing s x .setMembers →
    setMembersInRange x.params = true → handleOf x.params.p0 = { slot := i, gen := w.gen } → s.window i = w →
    w.state ≠ .free →
    let refused := fun c : ResultCode =>
      finish x { state := s, code := c, words := { w0 := 0#32, w1 := 0#32, w2 := 0#32 } }
    (x.master = 0 → w.layer = .common → (w.state = .active ∨ w.state = .lapsed) →
      exec .setMembers s =
        .next (finish x
          { state := s.setWindow i { w with members := some (x.params.p1.extractLsb' 0 6) }
            code := .done
            words :=
              { w0 := handleWord { slot := i, gen := w.gen }
                w1 := field 6 0 ((w.members.map BitVec.toNat).getD 0), w2 := 0#32 } })) ∧
    (x.master ≠ 0 → exec .setMembers s = .next (refused .notSupervisor)) ∧
    (x.master = 0 → w.layer = .priv → exec .setMembers s = .next (refused .wrongLayer)) ∧
    (x.master = 0 → w.layer = .common → w.state ≠ .active → w.state ≠ .lapsed →
      exec .setMembers s = .next (refused .wrongState))

/-- QUERY (R98, R99), QUERY_ADDRESS (R100) and FIND_HELD (R102) change no table and complete with the record in the view
asked for, with the decision resolution would reach, and with the first live slot held from the slot given or EMPTY. -/
def Obligations.TableQueriesReportAndChangeNothing : Prop :=
  ∀ (s : State) (x : Execution),
    let completed := fun (code : ResultCode) (words : ResultWords) =>
      finish x { state := s, code := code, words := words }
    (∀ (i : Slot) (w : Window), Executing s x .query → queryInRange x.params = true →
      handleOf x.params.p0 = { slot := i, gen := w.gen } → s.window i = w → w.state ≠ .free →
      (x.master = 0 ∨ w.holder = x.master ∨
        (w.state = .offered ∧ ∃ o ∈ w.offer, o.recipient = x.master) ∨
        (w.layer = .common ∧ ∃ set ∈ w.members, set.getLsbD x.master.val = true)) →
      exec .query s =
        .next (completed .done
          (if x.params.p1 = 0#32 then
            { w0 := windowSummary i w
              w1 := field 16 0 w.fabricBase ||| field 16 16 w.length
              w2 := field 16 0 w.targetBase ||| field 6 16 ((w.members.map BitVec.toNat).getD 0) }
          else
            { w0 := windowSummary i w
              w1 := field 16 0 (w.leasePeriod.getD 0) ||| field 16 16 w.leaseRemaining
              w2 := field 8 0 w.graceRemaining ||| field 8 8 ((w.offer.map Offer.ticks).getD 0) |||
                field 5 16 w.inFlight }))) ∧
    (∀ (a : FabricAddr) (k : AccessKind), Executing s x .queryAddress → a.toNat < 0xFFF0000 →
      x.params.p0 = field 28 0 a.toNat → x.params.p1 = field 2 0 k.code →
      exec .queryAddress s =
        .next (completed .done
          (match decideAccess s x.master (a.toNat / 4096) k with
           | .noWindow => { w0 := field 4 16 1, w1 := 0#32, w2 := 0#32 }
           | .refused fk i =>
             { w0 := handleWord { slot := i, gen := (s.window i).gen } ||| field 4 16 fk.code
               w1 := field 2 28 (s.window i).target.val, w2 := 0#32 }
           | .hit i =>
             { w0 := handleWord { slot := i, gen := (s.window i).gen }
               w1 :=
                 field 28 0
                   (((s.window i).targetBase + (a.toNat / 4096 - (s.window i).fabricBase)) * 4096 +
                     a.toNat % 4096) |||
                 field 2 28 (s.window i).target.val
               w2 := 0#32 }))) ∧
    (∀ start : Slot, Executing s x .findHeld → x.params.p0 = field 5 0 start.val →
      (∀ i : Slot, start ≤ i → (s.window i).state ≠ .free → (s.window i).holder = x.master →
        (∀ j : Slot, start ≤ j → j < i → (s.window j).state = .free ∨ (s.window j).holder ≠ x.master) →
        exec .findHeld s =
          .next (completed .done
            { w0 := handleWord { slot := i, gen := (s.window i).gen }
              w1 := field 3 0 (s.window i).state.code ||| field 1 3 (s.window i).layer.code, w2 := 0#32 })) ∧
      ((∀ j : Slot, start ≤ j → (s.window j).state = .free ∨ (s.window j).holder ≠ x.master) →
        exec .findHeld s = .next (completed .empty { w0 := 0#32, w1 := 0#32, w2 := 0#32 })))

/-! ### Leases and handoff (chapters 6 and 7) -/

/-- RENEW (R115, R116) by the holder of a leased window restores the full lease. On an ACTIVE or OFFERED one it clears the
warning with its notice and completes DONE. A LAPSED one returns to ACTIVE without LEASE_LAPSED, and the result is
DONE_LATE. SET_LEASE_CLOCK (R106) replaces the three settings, restarts the count and returns the old settings. -/
def Obligations.RenewAndSetLeaseClock : Prop :=
  (∀ (s : State) (x : Execution) (i : Slot) (w : Window) (p : Nat), Executing s x .renew →
    handleInRange x.params.p0 = true → handleOf x.params.p0 = { slot := i, gen := w.gen } → s.window i = w →
    w.holder = x.master → w.leasePeriod = some p →
    let words : ResultWords :=
      { w0 := handleWord { slot := i, gen := w.gen }, w1 := field 16 0 w.leaseRemaining
        w2 := field 8 0 w.graceRemaining }
    ((w.state = .active ∨ w.state = .offered) →
      exec .renew s =
        .next (finish x
          { state := removeNotice w.holder .leaseWarning i
              (s.setWindow i { w with leaseRemaining := p, warned := false })
            code := .done, words := words })) ∧
    (w.state = .lapsed →
      exec .renew s =
        .next (finish x
          { state := removeNotice w.holder .leaseLapsed i
              (s.setWindow i
                { w with state := .active, leaseRemaining := p, warned := false, graceRemaining := 0 })
            code := .doneLate, words := words }))) ∧
  (∀ (s : State) (x : Execution) (divider margin grace : Nat), Executing s x .setLeaseClock → x.master = 0 →
    divider < 4096 → margin < 256 → grace < 256 →
    x.params.p0 = field 12 0 divider → x.params.p1 = field 8 0 margin ||| field 8 8 grace →
    exec .setLeaseClock s =
      .next (finish x
        { state := { s with timer := { divider := divider, margin := margin, grace := grace, cycles := 0 } }
          code := .done
          words :=
            { w0 := field 12 0 s.timer.divider, w1 := field 8 0 s.timer.margin ||| field 8 8 s.timer.grace
              w2 := 0#32 } }))

/-- OFFER (R121, R122): the holder's ACTIVE private window becomes OFFERED with the recipient and ticks given, and
OFFER_RECEIVED is raised to the recipient. Nothing else of the window changes. -/
def Obligations.OfferMovesTheWindowToOffered : Prop :=
  ∀ (s : State) (x : Execution) (i : Slot) (w : Window) (n : Master) (ticks : Nat), Executing s x .offer →
    offerInRange x.params = true → handleOf x.params.p0 = { slot := i, gen := w.gen } → s.window i = w →
    recipientParam x.params = n → offerTicks x.params = ticks →
    w.holder = x.master → w.state = .active → w.layer = .priv → n ≠ x.master → (s.master n).state ≠ .offline →
    exec .offer s =
      .next (finish x
        { state := raiseNotice n { kind := .offerReceived, key := i, gen := w.gen, cause := .none }
            (s.setWindow i { w with state := .offered, offer := some { recipient := n, ticks := ticks } })
          code := .done
          words :=
            { w0 := handleWord { slot := i, gen := w.gen }, w1 := field 3 0 n.val ||| field 8 8 ticks
              w2 := 0#32 } })

/-- WITHDRAW (R123) by the holder and DECLINE (R124) by the recipient clear the offer and return the window to ACTIVE
with its holder, generation and lease. OFFER_RECEIVED is removed from the recipient. WITHDRAW raises OFFER_WITHDRAWN to
the recipient, and DECLINE raises OFFER_DECLINED to the holder. -/
def Obligations.WithdrawAndDeclineEndTheOffer : Prop :=
  ∀ (s : State) (x : Execution) (i : Slot) (w : Window) (o : Offer),
    handleInRange x.params.p0 = true → handleOf x.params.p0 = { slot := i, gen := w.gen } → s.window i = w →
    w.state = .offered → w.offer = some o → w.layer = .priv →
    let note := fun k : NoticeKind => ({ kind := k, key := i, gen := w.gen, cause := .none } : Notice)
    let ended := removeNotice o.recipient .offerReceived i (s.setWindow i { w with state := .active, offer := none })
    (Executing s x .withdraw → w.holder = x.master →
      ∃ u : State,
        exec .withdraw s =
          .next (finish x
            { state := u, code := .done
              words :=
                { w0 := handleWord { slot := i, gen := w.gen }
                  w1 := field 3 0 o.recipient.val ||| field 8 8 o.ticks, w2 := 0#32 } }) ∧
        u = raiseNotice o.recipient (note .offerWithdrawn) ended) ∧
    (Executing s x .decline → o.recipient = x.master →
      exec .decline s =
        .next (finish x
          { state := raiseNotice w.holder (note .offerDeclined) ended
            code := .done
            words :=
              { w0 := handleWord { slot := i, gen := w.gen }, w1 := field 3 0 w.holder.val, w2 := 0#32 } }))

/-- ACCEPT (R125, R126): the recipient, below its quota and without a private window over the pages, becomes the holder at
the next generation with a full lease. OFFER_RECEIVED is removed from it, and OFFER_ACCEPTED with the old generation is
raised to the old holder. In-flight accesses, ranges, rights and layer carry across. -/
def Obligations.AcceptMovesTheWindow : Prop :=
  ∀ (s : State) (x : Execution) (i : Slot) (w : Window) (o : Offer), Executing s x .accept →
    handleInRange x.params.p0 = true → handleOf x.params.p0 = { slot := i, gen := w.gen } → s.window i = w →
    w.state = .offered → w.offer = some o → o.recipient = x.master →
    s.heldPrivate x.master < (s.master x.master).quota →
    (∀ j, (s.window j).live = true → (s.window j).layer = .priv → (s.window j).holder = x.master →
      Apart w.fabricBase w.length (s.window j).fabricBase (s.window j).length) →
    exec .accept s =
      .next (finish x
        { state :=
            raiseNotice w.holder { kind := .offerAccepted, key := i, gen := w.gen, cause := .none }
              (removeNotice x.master .offerReceived i
                (s.setWindow i
                  { w with
                    holder := x.master, gen := w.gen + 1, offer := none, state := .active
                    leaseRemaining := w.leasePeriod.getD 0, warned := false }))
          code := .done
          words :=
            { w0 := handleWord { slot := i, gen := w.gen + 1 }
              w1 := field 3 0 w.holder.val ||| field 4 8 w.gen.toNat
              w2 := field 16 0 (w.leasePeriod.getD 0) } })

/-! ### Faults, notices and masters (chapters 8 to 10) -/

/-- READ_FAULT (R135) returns the asking master's fault record and changes nothing. CLEAR_FAULT (R136) returns the same
words, empties the record and removes FAULT. The words are those of R170, zero for an empty record. -/
def Obligations.ReadFaultAndClearFault : Prop :=
  ∀ (s : State) (x : Execution),
    let words :=
      match (s.master x.master).faultRecord with
      | none => ({ w0 := 0#32, w1 := 0#32, w2 := 0#32 } : ResultWords)
      | some f =>
        { w0 := f.first.addr.setWidth 32
          w1 :=
            (match f.first.handle with
             | some h => handleWord h ||| 0x1000#32
             | none => 0#32) |||
            (match f.first.target with
             | some t => field 2 13 t.val ||| 0x8000#32
             | none => 0#32) |||
            field 4 16 f.first.kind.code |||
            field 2 20 ((f.first.accessKind.map AccessKind.code).getD 3) |||
            field 3 22 ((f.first.form.map Form.code).getD 7)
          w2 := field 4 0 f.latest.code ||| field 8 8 f.count }
    (Executing s x .readFault →
      exec .readFault s = .next (finish x { state := s, code := .done, words := words })) ∧
    (Executing s x .clearFault →
      exec .clearFault s =
        .next (finish x
          { state := s.setMaster x.master
              { s.master x.master with
                faultRecord := none
                notices := (s.master x.master).notices.filter fun n => !(n.kind == .fault && n.key == 0) }
            code := .done, words := words }))

/-- RELEASE_HOLD (R141) makes a HELD master ONLINE and changes nothing else of it. ATTACH (R162) makes an OFFLINE master
ONLINE and empties its notice set. Both return the master's number. -/
def Obligations.ReleaseHoldAndAttach : Prop :=
  ∀ (s : State) (x : Execution) (n : Master), x.master = 0 → x.params.p0 = field 3 0 n.val →
    let returned := fun r : MasterRecord =>
      finish x
        { state := s.setMaster n r, code := .done, words := { w0 := field 3 0 n.val, w1 := 0#32, w2 := 0#32 } }
    (Executing s x .releaseHold → (s.master n).state = .held →
      exec .releaseHold s = .next (returned { s.master n with state := .online })) ∧
    (Executing s x .attach → (s.master n).state = .offline →
      exec .attach s = .next (returned { s.master n with state := .online, notices := [] }))

/-- TAKE_NOTICE (R147, R148): the pending notice whose kind stands first in the order, and of that kind the one with the
lowest key, is removed and returned with the numbers left. An empty set gives EMPTY. -/
def Obligations.TakeNoticeTakesTheFirstByOrder : Prop :=
  ∀ (s : State) (x : Execution), Executing s x .takeNotice → NoticesUnique s →
    (s.master x.master).order.Perm defaultOrder →
    (∀ n ∈ (s.master x.master).notices,
      (∀ y ∈ (s.master x.master).notices,
        (s.master x.master).order.idxOf n.kind ≤ (s.master x.master).order.idxOf y.kind ∧
          (y.kind = n.kind → n.key ≤ y.key)) →
      let left := (s.master x.master).notices.filter fun y => !(y.kind == n.kind && y.key == n.key)
      exec .takeNotice s =
        .next (finish x
          { state := s.setMaster x.master { s.master x.master with notices := left }
            code := .done
            words :=
              { w0 := noticeWord n, w1 := field 9 0 left.length
                w2 := field 9 0
                  (left.countP fun y => (s.master x.master).enables.getLsbD (y.kind.number - 1)) } }) ∧
      left.length + 1 = (s.master x.master).notices.length) ∧
    ((s.master x.master).notices = [] →
      exec .takeNotice s =
        .next (finish x { state := s, code := .empty, words := { w0 := 0#32, w1 := 0#32, w2 := 0#32 } }))

/-- SET_NOTICE_ORDER (R149) takes any permutation of the eleven kinds and returns the order it replaced.
SET_NOTICE_ENABLE (R150) takes any subset of them and returns the enables it replaced. The pending set is not changed, and
the attention line is then high exactly when the set holds a notice of an enabled kind (R151). -/
def Obligations.SetNoticeOrderAndEnable : Prop :=
  ∀ (s : State) (x : Execution),
    (∀ o : List NoticeKind, Executing s x .setNoticeOrder → o.Perm defaultOrder →
      x.params.p0 = orderWord0 o → x.params.p1 = orderWord1 o →
      exec .setNoticeOrder s =
        .next (finish x
          { state := s.setMaster x.master { s.master x.master with order := o }
            code := .done
            words :=
              { w0 := orderWord0 (s.master x.master).order, w1 := orderWord1 (s.master x.master).order
                w2 := 0#32 } })) ∧
    (∀ e : BitVec 11, Executing s x .setNoticeEnable → x.params.p0 = e.setWidth 32 →
      ∃ u : State,
        exec .setNoticeEnable s = .next u ∧
        u = finish x
          { state := s.setMaster x.master { s.master x.master with enables := e }
            code := .done
            words := { w0 := (s.master x.master).enables.setWidth 32, w1 := 0#32, w2 := 0#32 } } ∧
        (u.attn x.master = true ↔ ∃ n ∈ (s.master x.master).notices, e.getLsbD (n.kind.number - 1) = true))

/-- SET_MASTER (R156) by M0 replaces quota, policy and disposition, never HOLD for M0, and leaves the master's state and
windows. QUERY_MASTER (R157), by M0 or by the master itself, changes nothing and returns the items of R157. A master that
asks about itself reads its mailbox as it stands before the completion, EXECUTING: that is the model's reading, unsafe
(log 14). -/
def Obligations.SetMasterAndQueryMaster : Prop :=
  ∀ (s : State) (x : Execution) (n : Master), x.params.p0 = field 3 0 n.val →
    let settings := field 6 0 (s.master n).quota ||| field 1 8 (s.master n).policy.code |||
      field 1 9 (s.master n).disposition.code
    let held := field 6 0
      ((List.finRange 32).countP fun i : Slot =>
        (s.window i).state != .free && (s.window i).layer == .priv && (s.window i).holder == n)
    (∀ (quota : Nat) (f : FaultPolicy) (d : Disposition), Executing s x .setMaster → x.master = 0 → quota ≤ 32 →
      ¬(n = 0 ∧ f = .hold) → x.params.p1 = field 6 0 quota ||| field 1 8 f.code ||| field 1 9 d.code →
      exec .setMaster s =
        .next (finish x
          { state := s.setMaster n { s.master n with quota := quota, policy := f, disposition := d }
            code := .done, words := { w0 := settings, w1 := held, w2 := 0#32 } })) ∧
    (Executing s x .queryMaster → (x.master = 0 ∨ x.master = n) →
      exec .queryMaster s =
        .next (finish x
          { state := s, code := .done
            words :=
              { w0 := settings ||| field 2 12 (s.master n).state.code
                w1 := held ||| field 3 8 (s.port n).outstanding ||| field 2 12 (s.mailbox n).state.code |||
                  field 1 16 (if (s.port n).lineAsserted = true then 1 else 0) |||
                  field 1 17 (if (s.port n).reopenWait = true then 1 else 0)
                w2 := field 9 0 (s.master n).notices.length |||
                  field 9 10
                    ((s.master n).notices.countP fun y => (s.master n).enables.getLsbD (y.kind.number - 1)) |||
                  field 8 20 (((s.master n).faultRecord.map FaultRecord.count).getD 0) } }))

/-- DETACH (R159): the master is OFFLINE, its set holds exactly the WINDOW_REVOKED of the windows retired, offers to it end
as declined and its own offers as withdrawn, its own windows are FREE or DRAINING, and a SUBMITTED mailbox of it is DONE
with DETACHED. The counts are returned. Ports, targets and the timer are not reached, and of other masters only the notice
sets, by the ends of those offers. -/
def Obligations.DetachTakesTheMasterOffline : Prop :=
  ∀ (s : State) (x : Execution) (n : Master), OfferLaw s → Executing s x .detach → x.master = 0 →
    x.params.p0 = field 3 0 n.val → n ≠ 0 → (s.master n).state ≠ .offline →
    let ended := fun i : Slot => ∃ o ∈ (s.window i).offer, o.recipient = n
    let mine := fun i : Slot =>
      (s.window i).layer = .priv ∧ (s.window i).holder = n ∧
        ((s.window i).state = .active ∨ (s.window i).state = .offered ∨ (s.window i).state = .lapsed)
    ∃ u : State,
      exec .detach s =
        .next (finish x
          { state := u, code := .done
            words :=
              { w0 := field 3 0 n.val
                w1 :=
                  field 6 0 ((List.finRange 32).countP fun i => decide (mine i)) |||
                  field 6 8 ((List.finRange 32).countP fun i => decide (mine i ∧ (s.window i).inFlight ≠ 0)) |||
                  field 6 16 ((List.finRange 32).countP fun i => decide (ended i))
                w2 := 0#32 } }) ∧
      (∀ i, u.window i =
        if mine i then retiredWindow .none (s.window i)
        else if ended i then { s.window i with state := .active, offer := none }
        else s.window i) ∧
      (∀ y : Notice, y ∈ (u.master n).notices ↔
        ∃ i, mine i ∧ y = { kind := .windowRevoked, key := i, gen := (s.window i).gen, cause := .none }) ∧
      u.master n = { s.master n with state := .offline, notices := (u.master n).notices } ∧
      (∀ m, m ≠ n → u.master m = { s.master m with notices := (u.master m).notices }) ∧
      (∀ i, ended i →
        ({ kind := .offerDeclined, key := i, gen := (s.window i).gen, cause := .none } : Notice) ∈
          (u.master (s.window i).holder).notices) ∧
      (∀ i, mine i → ∀ o ∈ (s.window i).offer,
        ({ kind := .offerWithdrawn, key := i, gen := (s.window i).gen, cause := .none } : Notice) ∈
          (u.master o.recipient).notices) ∧
      (NoticesUnique s → ∀ m, m ≠ n → SetAfter (s.master m).notices (u.master m).notices
        (fun y =>
          ∃ i,
            (ended i ∧ m = (s.window i).holder ∧
              y = { kind := .offerDeclined, key := i, gen := (s.window i).gen, cause := .none }) ∨
            (mine i ∧ (∃ o ∈ (s.window i).offer, m = o.recipient) ∧
              y = { kind := .offerWithdrawn, key := i, gen := (s.window i).gen, cause := .none }))
        (fun k i => k = .offerReceived ∧ mine i ∧ ∃ o ∈ (s.window i).offer, m = o.recipient)) ∧
      u.mailbox n =
        (if (s.mailbox n).state = .submitted then
          { s.mailbox n with
            state := .done, result := some .detached, words := { w0 := 0#32, w1 := 0#32, w2 := 0#32 } }
        else s.mailbox n) ∧
      (∀ m, m ≠ n → u.mailbox m = s.mailbox m) ∧ (∀ m, u.port m = s.port m) ∧ (∀ t, u.target t = s.target t) ∧
      u.engine = s.engine ∧ u.timer = s.timer ∧ u.resolverPointer = s.resolverPointer ∧ u.drst = s.drst ∧
      u.pending = s.pending

/-- The target commands of M0 and QUERY_TARGET (R61 to R64): SET_TARGET replaces the five settings of a target that is not
ONLINE when no live window maps a page past the new size. TARGET_ONLINE makes it ONLINE and removes its TARGET_FAILED.
TARGET_OFFLINE makes it OFFLINE and answers its queue and waiting lists. QUERY_TARGET returns record and occupancy. -/
def Obligations.TargetCommandsActOnTheRecord : Prop :=
  ∀ (s : State) (x : Execution) (t : Target), x.params.p0 = field 2 0 t.val →
    let completed := fun (u : State) (words : ResultWords) =>
      finish x { state := u, code := .done, words := words }
    let zero : ResultWords := { w0 := 0#32, w1 := 0#32, w2 := 0#32 }
    (∀ c : TargetSettings, Executing s x .setTarget → x.master = 0 → SettingsInRange c →
      x.params.p1 = field 17 0 c.size ||| field 2 20 c.width.code →
      x.params.p2 = field 5 0 c.wait ||| field 4 8 c.recovery ||| field 10 16 c.limit →
      (s.target t).state ≠ .online →
      (∀ i, (s.window i).live = true → (s.window i).target = t →
        (s.window i).targetBase + (s.window i).length ≤ c.size) →
      exec .setTarget s = .next (completed (s.setTarget t { s.target t with settings := c }) zero)) ∧
    (Executing s x .targetOnline → x.master = 0 → (s.target t).state ≠ .online →
      exec .targetOnline s =
        .next (completed
          (removeNotice 0 .targetFailed (Fin.ofNat 32 t.val) (s.setTarget t { s.target t with state := .online }))
          zero)) ∧
    (Executing s x .targetOffline → x.master = 0 → (s.target t).state ≠ .offline →
      exec .targetOffline s =
        .next (completed (answerDown t (s.setTarget t { s.target t with state := .offline })) zero)) ∧
    (Executing s x .queryTarget →
      exec .queryTarget s =
        .next (completed s
          { w0 :=
              field 17 0 (s.target t).settings.size ||| field 2 20 (s.target t).settings.width.code |||
              field 2 24 (s.target t).state.code
            w1 :=
              field 5 0 (s.target t).settings.wait ||| field 4 8 (s.target t).settings.recovery |||
              field 10 16 (s.target t).settings.limit
            w2 := field 4 0 (s.target t).queue.length |||
              field 1 8 (if (s.target t).running.isSome = true then 1 else 0) }))

/-! ### Ticks (chapter 6) -/

/-- LEASE_TICK (R105, R108 to R113): with the device reset input deasserted the count returns to 0, and every window
becomes what the tick makes of that window alone. A lease that comes to the margin without a warning raises LEASE_WARNING
to the holder. A lapse removes LEASE_WARNING and raises LEASE_LAPSED. A retirement at grace setting 0 removes LEASE_WARNING
too, and one that leaves the window FREE raises WINDOW_RETIRED, not to an OFFLINE holder. An offer that ends with a lapse, a
retirement or its own ticks loses OFFER_RECEIVED to OFFER_WITHDRAWN at the recipient, and at the last also raises
OFFER_EXPIRED to the holder. The sets change by these alone. Ports, mailboxes, targets and engine are not reached, nor any
part of a master record but the notice set. That the row ticks at whatever cycle count is the model's choice (log 26). -/
def Obligations.TickCountsEveryWindowAlone : Prop :=
  ∀ s : State, s.drst = false →
    ∃ u : State, exec .leaseTick s = .next u ∧
      (∀ i, u.window i = windowAfterTick s.timer (s.window i)) ∧ u.timer = { s.timer with cycles := 0 } ∧
      (∀ i, ((s.window i).state = .active ∨ (s.window i).state = .offered) →
        (s.window i).leasePeriod.isSome = true → (s.window i).leaseRemaining - 1 ≠ 0 →
        (s.window i).leaseRemaining - 1 ≤ s.timer.margin → (s.window i).warned = false →
        ({ kind := .leaseWarning, key := i, gen := (s.window i).gen, cause := .none } : Notice) ∈
          (u.master (s.window i).holder).notices) ∧
      (NoticesUnique s → OfferLaw s → ∀ m,
        SetAfter (s.master m).notices (u.master m).notices (tickRaises s m) (tickRemoves s m)) ∧
      (∀ m, u.master m = { s.master m with notices := (u.master m).notices }) ∧ (∀ m, u.port m = s.port m) ∧
      (∀ m, u.mailbox m = s.mailbox m) ∧ (∀ t, u.target t = s.target t) ∧ u.engine = s.engine ∧
      u.resolverPointer = s.resolverPointer ∧ u.drst = s.drst ∧ u.pending = s.pending

/-- LEASE_EXPIRY at a slot whose lease is at its last tick (R109 to R111): with a grace setting above 0 the window lapses,
an offer is withdrawn, LEASE_WARNING is removed and LEASE_LAPSED raised to the holder. With grace 0 LEASE_WARNING is
removed and the window is retired, with no LEASE_LAPSED. -/
def Obligations.LeaseExpiryLapsesOrRetires : Prop :=
  ∀ (s : State) (i : Slot) (w : Window), s.drst = false → s.window i = w → w.leasePeriod.isSome = true →
    w.leaseRemaining = 1 →
    let note := fun k : NoticeKind => ({ kind := k, key := i, gen := w.gen, cause := .none } : Notice)
    let lapsed :=
      { w with
        state := .lapsed, leaseRemaining := 0, warned := false, graceRemaining := s.timer.grace, offer := none }
    (s.timer.grace ≠ 0 → w.state = .active → w.offer = none →
      exec (.leaseExpiry i) s =
        .next (raiseNotice w.holder (note .leaseLapsed)
          (removeNotice w.holder .leaseWarning i (s.setWindow i lapsed)))) ∧
    (∀ o, s.timer.grace ≠ 0 → w.state = .offered → w.offer = some o →
      ∃ u : State, exec (.leaseExpiry i) s = .next u ∧
        (∀ j, u.window j = if j = i then lapsed else s.window j) ∧
        (∀ m, (u.master m).notices =
          let l0 := (s.master m).notices
          let l1 :=
            if m = o.recipient then insertNotice (note .offerWithdrawn) (dropNotice .offerReceived i l0) else l0
          if m = w.holder then insertNotice (note .leaseLapsed) (dropNotice .leaseWarning i l1) else l1) ∧
        (∀ m, u.master m = { s.master m with notices := (u.master m).notices }) ∧ (∀ m, u.port m = s.port m) ∧
        (∀ m, u.mailbox m = s.mailbox m) ∧ (∀ t, u.target t = s.target t) ∧ u.engine = s.engine ∧
        u.timer = s.timer ∧ u.resolverPointer = s.resolverPointer ∧ u.drst = s.drst ∧ u.pending = s.pending) ∧
    (s.timer.grace = 0 → (w.state = .active ∨ w.state = .offered) →
      exec (.leaseExpiry i) s =
        .next (retire .leaseZero i
          (removeNotice w.holder .leaseWarning i (s.setWindow i { w with leaseRemaining := 0 }))))

/-- GRACE_EXPIRY (R112) retires a LAPSED window at its last grace tick. OFFER_EXPIRY (R113) at the offer's last tick
returns the window to ACTIVE with its lease, removes OFFER_RECEIVED, and raises OFFER_WITHDRAWN to the recipient and
OFFER_EXPIRED to the holder. -/
def Obligations.GraceExpiryAndOfferExpiry : Prop :=
  ∀ (s : State) (i : Slot) (w : Window), s.drst = false → s.window i = w →
    let note := fun k : NoticeKind => ({ kind := k, key := i, gen := w.gen, cause := .none } : Notice)
    (w.state = .lapsed → w.graceRemaining = 1 →
      exec (.graceExpiry i) s = .next (retire .graceZero i (s.setWindow i { w with graceRemaining := 0 }))) ∧
    (∀ o, w.state = .offered → w.offer = some o → o.ticks = 1 →
      ∃ u : State, exec (.offerExpiry i) s = .next u ∧
        u = raiseNotice w.holder (note .offerExpired)
          (raiseNotice o.recipient (note .offerWithdrawn)
            (removeNotice o.recipient .offerReceived i
              (s.setWindow i { w with state := .active, offer := none }))))

/-! ### Resets -/

/-- MASTER_RESET (R43, R80, R163): at the port untaken work is discarded and the rest drop-marked. The mailbox is EMPTY
and its executing command orphaned. The fault record and notice state are at their reset values, offers to the master end
as declined and its own as withdrawn, and its windows go by its disposition. MASTER_RESET_DEASSERTION (R44) opens the
port, or leaves it in reopen wait while accesses are outstanding. -/
def Obligations.MasterResetUnwindsOneMaster : Prop :=
  ∀ (s : State) (n : Master),
    (OfferLaw s → (s.port n).lineAsserted = false →
      let ended := fun i : Slot => ∃ o ∈ (s.window i).offer, o.recipient = n
      let mine := fun i : Slot =>
        (s.window i).layer = .priv ∧ (s.window i).holder = n ∧
          ((s.window i).state = .active ∨ (s.window i).state = .offered ∨ (s.window i).state = .lapsed)
      let untaken := fun t : Tag =>
        (∃ r ∈ (s.port n).unresolved, r.tag = t) ∨ (∃ r ∈ (s.port n).aperture, r.tag = t) ∨
          ∃ r ∈ (s.port n).responses, r.tag = t
      ∃ u : State, exec (.masterReset n) s = .next u ∧
        (∀ t, (u.port n).tags[t] = if (s.port n).tags[t] = .free ∨ untaken t then .free else .inUse true) ∧
        u.port n =
          { tags := (u.port n).tags, unresolved := [], aperture := [], waiting := (s.port n).waiting, responses := []
            reopenWait := false, returned := (s.port n).returned, lineAsserted := true } ∧
        u.mailbox n = resetMailbox ∧
        u.engine =
          (if (s.mailbox n).state = .executing then
            { s.engine with execution := s.engine.execution.map fun x => { x with orphan := true } }
          else s.engine) ∧
        u.master n =
          { s.master n with
            faultRecord := none, notices := [], order := defaultOrder, enables := 0x7FF#11 } ∧
        (∀ i, u.window i =
          if mine i then
            if (s.master n).disposition = .release then retiredWindow .drainDone (s.window i)
            else if (s.window i).state = .offered then { s.window i with state := .active, offer := none }
            else s.window i
          else if ended i then { s.window i with state := .active, offer := none }
          else s.window i) ∧
        (∀ m, m ≠ n → u.master m = { s.master m with notices := (u.master m).notices } ∧
          u.port m = s.port m ∧ u.mailbox m = s.mailbox m) ∧
        (∀ i, ended i →
          ({ kind := .offerDeclined, key := i, gen := (s.window i).gen, cause := .none } : Notice) ∈
            (u.master (s.window i).holder).notices) ∧
        (∀ i, mine i → ∀ o ∈ (s.window i).offer,
          ({ kind := .offerWithdrawn, key := i, gen := (s.window i).gen, cause := .none } : Notice) ∈
            (u.master o.recipient).notices) ∧
        (NoticesUnique s → ∀ m, m ≠ n → SetAfter (s.master m).notices (u.master m).notices
          (fun y =>
            ∃ i,
              (ended i ∧ m = (s.window i).holder ∧
                y = { kind := .offerDeclined, key := i, gen := (s.window i).gen, cause := .none }) ∨
              (mine i ∧ (∃ o ∈ (s.window i).offer, m = o.recipient) ∧
                y = { kind := .offerWithdrawn, key := i, gen := (s.window i).gen, cause := .none }))
          (fun k i => k = .offerReceived ∧ mine i ∧ ∃ o ∈ (s.window i).offer, m = o.recipient)) ∧
        (∀ t, u.target t = s.target t) ∧ u.timer = s.timer ∧ u.resolverPointer = s.resolverPointer ∧
        u.drst = s.drst ∧ u.pending = s.pending) ∧
    ((s.port n).lineAsserted = true →
      exec (.masterResetDeassertion n) s =
        .next (s.setPort n
          { s.port n with
            lineAsserted := false, reopenWait := if (s.port n).outstanding = 0 then false else true }))

/-- DEVICE_RESET (R23, R45, R65, R81, R153, R154): every block returns to its reset contents, whatever it held. Only the
levels of the lines driven from outside and the model's own queue stay (log 8), and the device reset input is asserted.
Each target port drops its strobes and its four lane enables at once, whatever beat or recovery it was in (R65).
DEVICE_RESET_DEASSERTION (R45, R105) changes that level alone. -/
def Obligations.DeviceResetReturnsEveryBlock : Prop :=
  ∀ s : State,
    (∃ u : State, exec .deviceReset s = .next u ∧
      (∀ i, u.window i = State.reset.window i) ∧ (∀ m, u.master m = State.reset.master m) ∧
      (∀ m, u.mailbox m = State.reset.mailbox m) ∧
      (∀ m, u.port m = { State.reset.port m with lineAsserted := (s.port m).lineAsserted }) ∧
      (∀ t, u.target t = { State.reset.target t with lines := (s.target t).lines }) ∧
      (∀ t, (u.target t).phase = .idle ∧ (u.target t).drive.readStrobe = false ∧
        (u.target t).drive.writeStrobe = false ∧ ∀ l : Fin 4, (u.target t).drive.lanes[l] = .low) ∧
      u.engine = State.reset.engine ∧ u.timer = State.reset.timer ∧
      u.resolverPointer = State.reset.resolverPointer ∧ u.drst = true ∧ u.pending = s.pending) ∧
    exec .deviceResetDeassertion s = .next { s with drst := false }

/-! ### Invariants of every step -/

/-- R3, R10, R11, R12: no step makes an ill-made live window, lets two live windows reach one target page, or lets two
windows of one layer and holder cover one fabric page. -/
def Obligations.LawfulWindowsKeptByEveryStep : Prop :=
  ∀ s u : State, OfferLaw s → LawfulWindows s → step s = .next u → LawfulWindows u

/-- R131: every step keeps the offer law, by what R131 gives for it. Only OFFER sets the field, the holder of a window that
lives on changes only at ACCEPT, which leaves no offer, the layer of one never changes, and a master becomes OFFLINE only by
DETACH, which leaves no offer naming it. ATTACH adds no offer. After a device reset there is none, and after a master reset
none of which the master is holder or recipient. -/
def Obligations.OfferLawKeptByEveryStep : Prop :=
  ∀ s u : State, OfferLaw s → step s = .next u →
    let front := fun c : Instr => s.pending.head? = some c
    OfferLaw u ∧
    (∀ i, (s.window i).offer = none → (u.window i).offer ≠ none → front .offer) ∧
    (∀ i, (s.window i).live = true → (u.window i).live = true → ¬ front .deviceReset →
      (u.window i).layer = (s.window i).layer ∧
      ((u.window i).holder ≠ (s.window i).holder → front .accept ∧ (u.window i).offer = none)) ∧
    (∀ m, (s.master m).state ≠ .offline → (u.master m).state = .offline →
      front .detach ∧ ∀ i, ∀ o ∈ (u.window i).offer, o.recipient ≠ m) ∧
    (front .attach → ∀ i, (u.window i).offer = (s.window i).offer) ∧
    (front .deviceReset → ∀ i, (u.window i).offer = none) ∧
    ∀ n, front (.masterReset n) → (s.port n).lineAsserted = false →
      ∀ i, (u.window i).holder = n ∨ (∃ o ∈ (s.window i).offer, o.recipient = n) → (u.window i).offer = none

/-- R14: every step keeps the in-flight counts equal to the accesses resolved and not ended. -/
def Obligations.InFlightCountsKeptByEveryStep : Prop :=
  ∀ s u : State, TargetPortLaw s → CountedAccesses s → step s = .next u → CountedAccesses u

/-- R25: every step keeps each tag in use by exactly one outstanding access in exactly one place. -/
def Obligations.TagsAccountedForByEveryStep : Prop :=
  ∀ s u : State, TargetPortLaw s → TagsAccounted s → step s = .next u → TagsAccounted u

/-- R38, R47, R48: no step leaves an access queued or waiting for a target that is not ONLINE, an access in progress at an
IDLE port, or a beat without its access and captured settings. -/
def Obligations.TargetPortsKeepTheirLaw : Prop :=
  ∀ s u : State, TargetPortLaw s → step s = .next u → TargetPortLaw u

/-- R146: every step leaves at most one pending notice of a kind and key in each set. Raising enters a notice or replaces
the one of its kind and key, and removing adds none. Each set is empty after a device reset, the master's after its reset
line or ATTACH, and after DETACH its set has WINDOW_REVOKED alone. TAKE_NOTICE adds none. -/
def Obligations.NoticeSetsHoldOneOfAKindAndKey : Prop :=
  ∀ s : State, NoticesUnique s → OfferLaw s →
    (∀ (m : Master) (n x : Notice), x ∈ ((raiseNotice m n s).master m).notices ↔
      x = n ∨ (x ∈ (s.master m).notices ∧ ¬(x.kind = n.kind ∧ x.key = n.key))) ∧
    (∀ (m : Master) (k : NoticeKind) (i : Slot) (x : Notice), x ∈ ((removeNotice m k i s).master m).notices ↔
      x ∈ (s.master m).notices ∧ ¬(x.kind = k ∧ x.key = i)) ∧
    ∀ u : State, step s = .next u →
      let front := fun c : Instr => s.pending.head? = some c
      NoticesUnique u ∧
      (∀ m, ∀ a ∈ (u.master m).notices, ∀ b ∈ (u.master m).notices, a.kind = b.kind → a.key = b.key → a = b) ∧
      (front .deviceReset → ∀ m, (u.master m).notices = []) ∧
      (∀ n, front (.masterReset n) → (s.port n).lineAsserted = false → (u.master n).notices = []) ∧
      (∀ m, front .attach → (s.master m).state = .offline → (u.master m).state ≠ .offline →
        (u.master m).notices = []) ∧
      (∀ m, front .detach → (s.master m).state ≠ .offline → (u.master m).state = .offline →
        ∀ n ∈ (u.master m).notices, n.kind = .windowRevoked) ∧
      (front .takeNotice → ∀ m, ∀ n ∈ (u.master m).notices, n ∈ (s.master m).notices)

/-- R138, R155: M0 is never HELD and never OFFLINE, and its policy is REPORT. -/
def Obligations.SupervisorStaysOnline : Prop :=
  ∀ s u : State, SupervisorLaw s → step s = .next u → SupervisorLaw u

/-- R161: an OFFLINE master gains no private window in ACTIVE, OFFERED or LAPSED and no offer. -/
def Obligations.OfflineMastersStayWithoutWindows : Prop :=
  ∀ s u : State, OfferLaw s → OfflineLaw s → step s = .next u → OfflineLaw u

/-- R158: no step raises the number of live private windows a master holds above its quota. -/
def Obligations.QuotaBoundsEveryGain : Prop :=
  ∀ (s u : State) (m : Master), OfferLaw s → step s = .next u →
    u.heldPrivate m ≤ s.heldPrivate m ∨ u.heldPrivate m ≤ (u.master m).quota

/-- R69, R74, R80: every step keeps a mailbox EXECUTING exactly while the engine executes its captured command and the
command is not orphaned. -/
def Obligations.MailboxesFollowTheEngine : Prop :=
  ∀ s u : State, MailboxLaw s → step s = .next u → MailboxLaw u

/-- R2, R4, R46, R48, R105, R120, R133, R143, R154: every step keeps lease periods, lease, grace and offer ticks remaining,
quotas, fault counts, notice orders, target settings, queue lengths, timer settings and the cycle count in their ranges.
Where R14 and R25 hold of the counts and tags, no in-flight count passes 24. Where R3 holds of the windows, the fabric base
of a live one is at most 65519, its length 1 to 65520, and its target pages stand below 65536. -/
def Obligations.FieldsStayInRange : Prop :=
  ∀ s u : State, InRange s → step s = .next u →
    InRange u ∧
    (CountedAccesses u → TagsAccounted u → ∀ i, (u.window i).inFlight ≤ 24) ∧
    (LawfulWindows u → ∀ i, (u.window i).live = true →
      (u.window i).fabricBase ≤ 65519 ∧ 1 ≤ (u.window i).length ∧ (u.window i).length ≤ 65520 ∧
      (u.window i).targetBase + (u.window i).length ≤ 65536)

/-- R3: while a window lives, no step but a device reset changes its layer, fabric base, target, target base, rights or
lease period, and its length never falls. -/
def Obligations.ShapeOfALiveWindowIsFixed : Prop :=
  ∀ (s u : State) (i : Slot), s.pending.head? ≠ some .deviceReset → step s = .next u →
    (s.window i).state ≠ .free → (u.window i).state ≠ .free →
    (u.window i).layer = (s.window i).layer ∧ (u.window i).fabricBase = (s.window i).fabricBase ∧
    (u.window i).target = (s.window i).target ∧ (u.window i).targetBase = (s.window i).targetBase ∧
    (u.window i).rights = (s.window i).rights ∧ (u.window i).leasePeriod = (s.window i).leasePeriod ∧
    (s.window i).length ≤ (u.window i).length

end
end

