-- ==== Sys2Proof/Laws/Aperture.lean ====
section
/-! SUPPORT. What an aperture access asks for, by its kind, form and address (R66, R67), so that no later proof computes
with the addresses of the aperture. -/

namespace Sys2Proof.Machine

/-- A 4-byte write asks for what its word's direction allows. -/
theorem apertureAction_write {r : Request} {w : ApertureWord} (hk : r.kind = 1#2) (hs : r.size = 2#3)
    (ha : r.addr.toNat % 4 = 0) (hw : wordAt (r.addr.toNat - Config.apertureBase) = some w) :
    apertureAction r = directed .write w (r.wdata.getD 0 0#32) := by
  simp [apertureAction, reqKind, reqForm, hk, hs, AccessKind.ofCode, Form.ofCode, ha, hw]

/-- A 4-byte read asks for what its word's direction allows. -/
theorem apertureAction_read {r : Request} {w : ApertureWord} (hk : r.kind = 0#2) (hs : r.size = 2#3)
    (ha : r.addr.toNat % 4 = 0) (hw : wordAt (r.addr.toNat - Config.apertureBase) = some w) :
    apertureAction r = directed .read w (r.wdata.getD 0 0#32) := by
  simp [apertureAction, reqKind, reqForm, hk, hs, AccessKind.ofCode, Form.ofCode, ha, hw]

/-- The word at an address of the aperture, its offset given. -/
theorem wordAt_of_addr {a : FabricAddr} {k : Nat} (h : a.toNat = 0xFFF0000 + k) :
    wordAt (a.toNat - Config.apertureBase) = wordAt k := by
  have e : a.toNat - Config.apertureBase = k := by rw [h]; exact Nat.add_sub_cancel_left ..
  rw [e]

/-- The offsets that serve a word. -/
theorem wordAt_isSome {k : Nat} :
    (wordAt k).isSome = true ↔ k ∈ [0x00, 0x04, 0x08, 0x0C, 0x10, 0x20, 0x24, 0x28, 0x2C, 0x40] := by
  unfold wordAt
  split <;> simp_all

/-- A malformed access asks for nothing. -/
theorem apertureAction_of_bad_kind {r : Request} (h0 : r.kind ≠ 0#2) (h1 : r.kind ≠ 1#2) : apertureAction r = none := by
  have : reqKind r = none ∨ reqKind r = some .fetch := by
    unfold reqKind AccessKind.ofCode
    have hk := r.kind.isLt
    have e0 : r.kind.toNat ≠ 0 := fun h => h0 (BitVec.eq_of_toNat_eq h)
    have e1 : r.kind.toNat ≠ 1 := fun h => h1 (BitVec.eq_of_toNat_eq h)
    have : r.kind.toNat = 2 ∨ r.kind.toNat = 3 := by omega
    rcases this with h | h <;> simp [h]
  rcases this with h | h <;> simp [apertureAction, h]

/-- An access of another form than 4 bytes, or not aligned to 4, asks for nothing. -/
theorem apertureAction_of_bad_form {r : Request} (h : r.size ≠ 2#3 ∨ r.addr.toNat % 4 ≠ 0) : apertureAction r = none := by
  have hf : ¬(reqForm r = some .single4 ∧ r.addr.toNat % 4 = 0) := by
    rintro ⟨hf, ha⟩
    refine h.elim (fun hs => hs ?_) fun hs => hs ha
    have := r.size.isLt
    unfold reqForm Form.ofCode at hf
    refine BitVec.eq_of_toNat_eq ?_
    split at hf <;> simp_all
  unfold apertureAction
  split
  · rfl
  · rfl
  · rw [if_neg hf]

/-- An access at an offset that serves no word asks for nothing. -/
theorem apertureAction_of_bad_offset {r : Request} (h : wordAt (r.addr.toNat - Config.apertureBase) = none) :
    apertureAction r = none := by
  unfold apertureAction
  split
  · rfl
  · rfl
  · simp [h]

end Sys2Proof.Machine
end

