-- ==== Sys2Proof/Laws/State.lean ====
section
/-! SUPPORT. Reading a record of a state after another record has been replaced: one lemma per accessor and update, and
the same for the fields that are not tables. -/

namespace Sys2Proof.Machine

/-! ### The record replaced -/

/-- The window read back is the one written, and every other one is as before. -/
@[simp] theorem State.window_setWindow (s : State) (i j : Slot) (w : Window) :
    (s.setWindow i w).window j = if j = i then w else s.window j := by
  simp only [State.window, State.setWindow]
  by_cases h : j = i
  · subst h; simp
  · have h' : i.val ≠ j.val := fun e => h (Fin.ext e.symm)
    simp [h, Vector.getElem_set_ne, h']

/-- Writing the window that is there changes nothing. -/
@[simp] theorem State.setWindow_self (s : State) (i : Slot) : s.setWindow i (s.window i) = s := by
  simp [State.window, State.setWindow]

/-- The last of two writes of one window stands. -/
@[simp] theorem State.setWindow_setWindow (s : State) (i : Slot) (w w' : Window) :
    (s.setWindow i w).setWindow i w' = s.setWindow i w' := by
  simp [State.setWindow]

/-- The master read back is the one written, and every other one is as before. -/
@[simp] theorem State.master_setMaster (s : State) (m j : Master) (r : MasterRecord) :
    (s.setMaster m r).master j = if j = m then r else s.master j := by
  simp only [State.master, State.setMaster]
  by_cases h : j = m
  · subst h; simp
  · have h' : m.val ≠ j.val := fun e => h (Fin.ext e.symm)
    simp [h, Vector.getElem_set_ne, h']

/-- Writing the master that is there changes nothing. -/
@[simp] theorem State.setMaster_self (s : State) (m : Master) : s.setMaster m (s.master m) = s := by
  simp [State.master, State.setMaster]

/-- The last of two writes of one master stands. -/
@[simp] theorem State.setMaster_setMaster (s : State) (m : Master) (r r' : MasterRecord) :
    (s.setMaster m r).setMaster m r' = s.setMaster m r' := by
  simp [State.setMaster]

/-- The port read back is the one written, and every other one is as before. -/
@[simp] theorem State.port_setPort (s : State) (m j : Master) (p : MasterPort) :
    (s.setPort m p).port j = if j = m then p else s.port j := by
  simp only [State.port, State.setPort]
  by_cases h : j = m
  · subst h; simp
  · have h' : m.val ≠ j.val := fun e => h (Fin.ext e.symm)
    simp [h, Vector.getElem_set_ne, h']

/-- Writing the port that is there changes nothing. -/
@[simp] theorem State.setPort_self (s : State) (m : Master) : s.setPort m (s.port m) = s := by
  simp [State.port, State.setPort]

/-- The last of two writes of one port stands. -/
@[simp] theorem State.setPort_setPort (s : State) (m : Master) (p p' : MasterPort) :
    (s.setPort m p).setPort m p' = s.setPort m p' := by
  simp [State.setPort]

/-- The mailbox read back is the one written, and every other one is as before. -/
@[simp] theorem State.mailbox_setMailbox (s : State) (m j : Master) (b : Mailbox) :
    (s.setMailbox m b).mailbox j = if j = m then b else s.mailbox j := by
  simp only [State.mailbox, State.setMailbox]
  by_cases h : j = m
  · subst h; simp
  · have h' : m.val ≠ j.val := fun e => h (Fin.ext e.symm)
    simp [h, Vector.getElem_set_ne, h']

/-- Writing the mailbox that is there changes nothing. -/
@[simp] theorem State.setMailbox_self (s : State) (m : Master) : s.setMailbox m (s.mailbox m) = s := by
  simp [State.mailbox, State.setMailbox]

/-- The last of two writes of one mailbox stands. -/
@[simp] theorem State.setMailbox_setMailbox (s : State) (m : Master) (b b' : Mailbox) :
    (s.setMailbox m b).setMailbox m b' = s.setMailbox m b' := by
  simp [State.setMailbox]

/-- The target read back is the one written, and every other one is as before. -/
@[simp] theorem State.target_setTarget (s : State) (t j : Target) (p : TargetPort) :
    (s.setTarget t p).target j = if j = t then p else s.target j := by
  simp only [State.target, State.setTarget]
  by_cases h : j = t
  · subst h; simp
  · have h' : t.val ≠ j.val := fun e => h (Fin.ext e.symm)
    simp [h, Vector.getElem_set_ne, h']

/-- Writing the target that is there changes nothing. -/
@[simp] theorem State.setTarget_self (s : State) (t : Target) : s.setTarget t (s.target t) = s := by
  simp [State.target, State.setTarget]

/-- The last of two writes of one target stands. -/
@[simp] theorem State.setTarget_setTarget (s : State) (t : Target) (p p' : TargetPort) :
    (s.setTarget t p).setTarget t p' = s.setTarget t p' := by
  simp [State.setTarget]

/-! ### The other tables -/

@[simp] theorem State.master_setWindow (s : State) (i : Slot) (w : Window) (j : Master) :
    (s.setWindow i w).master j = s.master j := rfl

@[simp] theorem State.port_setWindow (s : State) (i : Slot) (w : Window) (j : Master) :
    (s.setWindow i w).port j = s.port j := rfl

@[simp] theorem State.mailbox_setWindow (s : State) (i : Slot) (w : Window) (j : Master) :
    (s.setWindow i w).mailbox j = s.mailbox j := rfl

@[simp] theorem State.target_setWindow (s : State) (i : Slot) (w : Window) (j : Target) :
    (s.setWindow i w).target j = s.target j := rfl

@[simp] theorem State.engine_setWindow (s : State) (i : Slot) (w : Window) :
    (s.setWindow i w).engine = s.engine := rfl

@[simp] theorem State.timer_setWindow (s : State) (i : Slot) (w : Window) :
    (s.setWindow i w).timer = s.timer := rfl

@[simp] theorem State.resolverPointer_setWindow (s : State) (i : Slot) (w : Window) :
    (s.setWindow i w).resolverPointer = s.resolverPointer := rfl

@[simp] theorem State.drst_setWindow (s : State) (i : Slot) (w : Window) :
    (s.setWindow i w).drst = s.drst := rfl

@[simp] theorem State.pending_setWindow (s : State) (i : Slot) (w : Window) :
    (s.setWindow i w).pending = s.pending := rfl

@[simp] theorem State.window_setMaster (s : State) (m : Master) (r : MasterRecord) (j : Slot) :
    (s.setMaster m r).window j = s.window j := rfl

@[simp] theorem State.port_setMaster (s : State) (m : Master) (r : MasterRecord) (j : Master) :
    (s.setMaster m r).port j = s.port j := rfl

@[simp] theorem State.mailbox_setMaster (s : State) (m : Master) (r : MasterRecord) (j : Master) :
    (s.setMaster m r).mailbox j = s.mailbox j := rfl

@[simp] theorem State.target_setMaster (s : State) (m : Master) (r : MasterRecord) (j : Target) :
    (s.setMaster m r).target j = s.target j := rfl

@[simp] theorem State.engine_setMaster (s : State) (m : Master) (r : MasterRecord) :
    (s.setMaster m r).engine = s.engine := rfl

@[simp] theorem State.timer_setMaster (s : State) (m : Master) (r : MasterRecord) :
    (s.setMaster m r).timer = s.timer := rfl

@[simp] theorem State.resolverPointer_setMaster (s : State) (m : Master) (r : MasterRecord) :
    (s.setMaster m r).resolverPointer = s.resolverPointer := rfl

@[simp] theorem State.drst_setMaster (s : State) (m : Master) (r : MasterRecord) :
    (s.setMaster m r).drst = s.drst := rfl

@[simp] theorem State.pending_setMaster (s : State) (m : Master) (r : MasterRecord) :
    (s.setMaster m r).pending = s.pending := rfl

@[simp] theorem State.window_setPort (s : State) (m : Master) (p : MasterPort) (j : Slot) :
    (s.setPort m p).window j = s.window j := rfl

@[simp] theorem State.master_setPort (s : State) (m : Master) (p : MasterPort) (j : Master) :
    (s.setPort m p).master j = s.master j := rfl

@[simp] theorem State.mailbox_setPort (s : State) (m : Master) (p : MasterPort) (j : Master) :
    (s.setPort m p).mailbox j = s.mailbox j := rfl

@[simp] theorem State.target_setPort (s : State) (m : Master) (p : MasterPort) (j : Target) :
    (s.setPort m p).target j = s.target j := rfl

@[simp] theorem State.engine_setPort (s : State) (m : Master) (p : MasterPort) :
    (s.setPort m p).engine = s.engine := rfl

@[simp] theorem State.timer_setPort (s : State) (m : Master) (p : MasterPort) :
    (s.setPort m p).timer = s.timer := rfl

@[simp] theorem State.resolverPointer_setPort (s : State) (m : Master) (p : MasterPort) :
    (s.setPort m p).resolverPointer = s.resolverPointer := rfl

@[simp] theorem State.drst_setPort (s : State) (m : Master) (p : MasterPort) :
    (s.setPort m p).drst = s.drst := rfl

@[simp] theorem State.pending_setPort (s : State) (m : Master) (p : MasterPort) :
    (s.setPort m p).pending = s.pending := rfl

@[simp] theorem State.window_setMailbox (s : State) (m : Master) (b : Mailbox) (j : Slot) :
    (s.setMailbox m b).window j = s.window j := rfl

@[simp] theorem State.master_setMailbox (s : State) (m : Master) (b : Mailbox) (j : Master) :
    (s.setMailbox m b).master j = s.master j := rfl

@[simp] theorem State.port_setMailbox (s : State) (m : Master) (b : Mailbox) (j : Master) :
    (s.setMailbox m b).port j = s.port j := rfl

@[simp] theorem State.target_setMailbox (s : State) (m : Master) (b : Mailbox) (j : Target) :
    (s.setMailbox m b).target j = s.target j := rfl

@[simp] theorem State.engine_setMailbox (s : State) (m : Master) (b : Mailbox) :
    (s.setMailbox m b).engine = s.engine := rfl

@[simp] theorem State.timer_setMailbox (s : State) (m : Master) (b : Mailbox) :
    (s.setMailbox m b).timer = s.timer := rfl

@[simp] theorem State.resolverPointer_setMailbox (s : State) (m : Master) (b : Mailbox) :
    (s.setMailbox m b).resolverPointer = s.resolverPointer := rfl

@[simp] theorem State.drst_setMailbox (s : State) (m : Master) (b : Mailbox) :
    (s.setMailbox m b).drst = s.drst := rfl

@[simp] theorem State.pending_setMailbox (s : State) (m : Master) (b : Mailbox) :
    (s.setMailbox m b).pending = s.pending := rfl

@[simp] theorem State.window_setTarget (s : State) (t : Target) (p : TargetPort) (j : Slot) :
    (s.setTarget t p).window j = s.window j := rfl

@[simp] theorem State.master_setTarget (s : State) (t : Target) (p : TargetPort) (j : Master) :
    (s.setTarget t p).master j = s.master j := rfl

@[simp] theorem State.port_setTarget (s : State) (t : Target) (p : TargetPort) (j : Master) :
    (s.setTarget t p).port j = s.port j := rfl

@[simp] theorem State.mailbox_setTarget (s : State) (t : Target) (p : TargetPort) (j : Master) :
    (s.setTarget t p).mailbox j = s.mailbox j := rfl

@[simp] theorem State.engine_setTarget (s : State) (t : Target) (p : TargetPort) :
    (s.setTarget t p).engine = s.engine := rfl

@[simp] theorem State.timer_setTarget (s : State) (t : Target) (p : TargetPort) :
    (s.setTarget t p).timer = s.timer := rfl

@[simp] theorem State.resolverPointer_setTarget (s : State) (t : Target) (p : TargetPort) :
    (s.setTarget t p).resolverPointer = s.resolverPointer := rfl

@[simp] theorem State.drst_setTarget (s : State) (t : Target) (p : TargetPort) :
    (s.setTarget t p).drst = s.drst := rfl

@[simp] theorem State.pending_setTarget (s : State) (t : Target) (p : TargetPort) :
    (s.setTarget t p).pending = s.pending := rfl

/-! ### The tables after a replacement of a single field -/

@[simp] theorem State.window_with_engine (s : State) (x : Engine) (j : Slot) :
    State.window { s with engine := x } j = s.window j := rfl

@[simp] theorem State.master_with_engine (s : State) (x : Engine) (j : Master) :
    State.master { s with engine := x } j = s.master j := rfl

@[simp] theorem State.port_with_engine (s : State) (x : Engine) (j : Master) :
    State.port { s with engine := x } j = s.port j := rfl

@[simp] theorem State.mailbox_with_engine (s : State) (x : Engine) (j : Master) :
    State.mailbox { s with engine := x } j = s.mailbox j := rfl

@[simp] theorem State.target_with_engine (s : State) (x : Engine) (j : Target) :
    State.target { s with engine := x } j = s.target j := rfl

@[simp] theorem State.window_with_timer (s : State) (x : LeaseTimer) (j : Slot) :
    State.window { s with timer := x } j = s.window j := rfl

@[simp] theorem State.master_with_timer (s : State) (x : LeaseTimer) (j : Master) :
    State.master { s with timer := x } j = s.master j := rfl

@[simp] theorem State.port_with_timer (s : State) (x : LeaseTimer) (j : Master) :
    State.port { s with timer := x } j = s.port j := rfl

@[simp] theorem State.mailbox_with_timer (s : State) (x : LeaseTimer) (j : Master) :
    State.mailbox { s with timer := x } j = s.mailbox j := rfl

@[simp] theorem State.target_with_timer (s : State) (x : LeaseTimer) (j : Target) :
    State.target { s with timer := x } j = s.target j := rfl

@[simp] theorem State.window_with_resolverPointer (s : State) (x : Master) (j : Slot) :
    State.window { s with resolverPointer := x } j = s.window j := rfl

@[simp] theorem State.master_with_resolverPointer (s : State) (x : Master) (j : Master) :
    State.master { s with resolverPointer := x } j = s.master j := rfl

@[simp] theorem State.port_with_resolverPointer (s : State) (x : Master) (j : Master) :
    State.port { s with resolverPointer := x } j = s.port j := rfl

@[simp] theorem State.mailbox_with_resolverPointer (s : State) (x : Master) (j : Master) :
    State.mailbox { s with resolverPointer := x } j = s.mailbox j := rfl

@[simp] theorem State.target_with_resolverPointer (s : State) (x : Master) (j : Target) :
    State.target { s with resolverPointer := x } j = s.target j := rfl

@[simp] theorem State.window_with_drst (s : State) (x : Bool) (j : Slot) :
    State.window { s with drst := x } j = s.window j := rfl

@[simp] theorem State.master_with_drst (s : State) (x : Bool) (j : Master) :
    State.master { s with drst := x } j = s.master j := rfl

@[simp] theorem State.port_with_drst (s : State) (x : Bool) (j : Master) :
    State.port { s with drst := x } j = s.port j := rfl

@[simp] theorem State.mailbox_with_drst (s : State) (x : Bool) (j : Master) :
    State.mailbox { s with drst := x } j = s.mailbox j := rfl

@[simp] theorem State.target_with_drst (s : State) (x : Bool) (j : Target) :
    State.target { s with drst := x } j = s.target j := rfl

@[simp] theorem State.window_with_pending (s : State) (x : List Instr) (j : Slot) :
    State.window { s with pending := x } j = s.window j := rfl

@[simp] theorem State.master_with_pending (s : State) (x : List Instr) (j : Master) :
    State.master { s with pending := x } j = s.master j := rfl

@[simp] theorem State.port_with_pending (s : State) (x : List Instr) (j : Master) :
    State.port { s with pending := x } j = s.port j := rfl

@[simp] theorem State.mailbox_with_pending (s : State) (x : List Instr) (j : Master) :
    State.mailbox { s with pending := x } j = s.mailbox j := rfl

@[simp] theorem State.target_with_pending (s : State) (x : List Instr) (j : Target) :
    State.target { s with pending := x } j = s.target j := rfl

/-! ### Ports -/

@[simp] theorem MasterPort.waitingFor_setWaiting (p : MasterPort) (t u : Target) (l : List Resolved) :
    (p.setWaiting t l).waitingFor u = if u = t then l else p.waitingFor u := by
  simp only [MasterPort.waitingFor, MasterPort.setWaiting]
  by_cases h : u = t
  · subst h; simp
  · have h' : t.val ≠ u.val := fun e => h (Fin.ext e.symm)
    simp [h, Vector.getElem_set_ne, h']

@[simp] theorem MasterPort.tags_setWaiting (p : MasterPort) (t : Target) (l : List Resolved) :
    (p.setWaiting t l).tags = p.tags := rfl

@[simp] theorem MasterPort.unresolved_setWaiting (p : MasterPort) (t : Target) (l : List Resolved) :
    (p.setWaiting t l).unresolved = p.unresolved := rfl

@[simp] theorem MasterPort.aperture_setWaiting (p : MasterPort) (t : Target) (l : List Resolved) :
    (p.setWaiting t l).aperture = p.aperture := rfl

@[simp] theorem MasterPort.responses_setWaiting (p : MasterPort) (t : Target) (l : List Resolved) :
    (p.setWaiting t l).responses = p.responses := rfl

@[simp] theorem MasterPort.reopenWait_setWaiting (p : MasterPort) (t : Target) (l : List Resolved) :
    (p.setWaiting t l).reopenWait = p.reopenWait := rfl

@[simp] theorem MasterPort.returned_setWaiting (p : MasterPort) (t : Target) (l : List Resolved) :
    (p.setWaiting t l).returned = p.returned := rfl

@[simp] theorem MasterPort.lineAsserted_setWaiting (p : MasterPort) (t : Target) (l : List Resolved) :
    (p.setWaiting t l).lineAsserted = p.lineAsserted := rfl

@[simp] theorem MasterPort.unresolved_setTag (p : MasterPort) (t : Tag) (v : TagState) :
    (p.setTag t v).unresolved = p.unresolved := rfl

@[simp] theorem MasterPort.aperture_setTag (p : MasterPort) (t : Tag) (v : TagState) :
    (p.setTag t v).aperture = p.aperture := rfl

@[simp] theorem MasterPort.waiting_setTag (p : MasterPort) (t : Tag) (v : TagState) :
    (p.setTag t v).waiting = p.waiting := rfl

@[simp] theorem MasterPort.responses_setTag (p : MasterPort) (t : Tag) (v : TagState) :
    (p.setTag t v).responses = p.responses := rfl

@[simp] theorem MasterPort.reopenWait_setTag (p : MasterPort) (t : Tag) (v : TagState) :
    (p.setTag t v).reopenWait = p.reopenWait := rfl

@[simp] theorem MasterPort.returned_setTag (p : MasterPort) (t : Tag) (v : TagState) :
    (p.setTag t v).returned = p.returned := rfl

@[simp] theorem MasterPort.lineAsserted_setTag (p : MasterPort) (t : Tag) (v : TagState) :
    (p.setTag t v).lineAsserted = p.lineAsserted := rfl

/-- A tag read back is the one written, and every other one is as before. -/
theorem MasterPort.tag_setTag (p : MasterPort) (t u : Tag) (v : TagState) :
    (p.setTag t v).tags[u] = if u = t then v else p.tags[u] := by
  simp only [MasterPort.setTag]
  by_cases h : u = t
  · subst h; simp
  · have h' : t.val ≠ u.val := fun e => h (Fin.ext e.symm)
    simp [h, Vector.getElem_set_ne, h']

/-! ### The round robin -/

/-- The port a round robin reaches wants to be reached. -/
theorem nextInTurn_wants {last m : Master} {wants : Master → Bool} (h : nextInTurn last wants = some m) :
    wants m = true := by
  simpa using List.find?_some h

/-- Every master is in the round robin after any master. -/
theorem mem_roundRobin : ∀ last m : Master, m ∈ roundRobin last := by decide

/-- A round robin reaches no port exactly when none wants to be reached. -/
theorem nextInTurn_eq_none {last : Master} {wants : Master → Bool} :
    nextInTurn last wants = none ↔ ∀ m, wants m = false := by
  unfold nextInTurn
  rw [List.find?_eq_none]
  constructor
  · intro h m
    simpa using h m (mem_roundRobin last m)
  · intro h m _
    simp [h m]

end Sys2Proof.Machine
end

