-- ==== Sys2Proof/Laws/Flags.lean ====
section
/-! SUPPORT. What the operations over notice sets and fault records do: the order a set is held in, what raising and
removing leave, and the fields of a state they do not reach. -/

namespace Sys2Proof.Machine

/-! ### Ranks and the order of a set -/

/-- Kind numbers tell kinds apart (R143). -/
theorem NoticeKind.number_inj : ∀ a b : NoticeKind, a.number = b.number → a = b := by
  intro a b; cases a <;> cases b <;> simp [NoticeKind.number]

/-- A rank names a kind and a key. -/
theorem noticeRank_inj {k l : NoticeKind} {i j : Slot} : noticeRank k i = noticeRank l j ↔ k = l ∧ i = j := by
  unfold noticeRank
  constructor
  · intro h
    have hi := i.isLt
    have hj := j.isLt
    exact ⟨NoticeKind.number_inj k l (by omega), Fin.ext (by omega)⟩
  · rintro ⟨rfl, rfl⟩; rfl

/-- The order every pending set is held in. -/
def RisingRanks (l : List Notice) : Prop := l.Pairwise fun a b => a.rank < b.rank

/-- The notices of a set after raising: the new one, and the others but for the one replaced (R144). -/
theorem mem_insertNotice {n x : Notice} {l : List Notice} (hl : RisingRanks l) :
    x ∈ insertNotice n l ↔ x = n ∨ (x ∈ l ∧ x.rank ≠ n.rank) := by
  induction l with
  | nil => simp [insertNotice]
  | cons y ys ih =>
    have hy : ∀ z ∈ ys, y.rank < z.rank := (List.pairwise_cons.1 hl).1
    have ih := ih (List.pairwise_cons.1 hl).2
    unfold insertNotice
    split
    · rename_i h
      constructor
      · intro hx
        rcases List.mem_cons.1 hx with rfl | hx
        · exact .inl rfl
        · refine .inr ⟨hx, ?_⟩
          rcases List.mem_cons.1 hx with rfl | hx
          · omega
          · have := hy x hx; omega
      · rintro (rfl | ⟨hx, -⟩)
        · simp
        · exact List.mem_cons_of_mem _ hx
    · split
      · rename_i h1 h2
        constructor
        · intro hx
          rcases List.mem_cons.1 hx with rfl | hx
          · exact .inl rfl
          · have := hy x hx
            exact .inr ⟨List.mem_cons_of_mem _ hx, by omega⟩
        · rintro (rfl | ⟨hx, hne⟩)
          · simp
          · rcases List.mem_cons.1 hx with rfl | hx
            · exact absurd h2.symm hne
            · exact List.mem_cons_of_mem _ hx
      · rename_i h1 h2
        rw [List.mem_cons, ih, List.mem_cons]
        constructor
        · rintro (rfl | rfl | ⟨hx, hne⟩)
          · exact .inr ⟨.inl rfl, fun e => h2 e.symm⟩
          · exact .inl rfl
          · exact .inr ⟨.inr hx, hne⟩
        · rintro (rfl | ⟨rfl | hx, hne⟩)
          · exact .inr (.inl rfl)
          · exact .inl rfl
          · exact .inr (.inr ⟨hx, hne⟩)

/-- Raising keeps the order of a set. -/
theorem insertNotice_rising {n : Notice} {l : List Notice} (hl : RisingRanks l) : RisingRanks (insertNotice n l) := by
  induction l with
  | nil => simp [insertNotice, RisingRanks]
  | cons y ys ih =>
    obtain ⟨hy, hys⟩ := List.pairwise_cons.1 hl
    unfold insertNotice
    split
    · rename_i h
      refine List.pairwise_cons.2 ⟨?_, hl⟩
      intro z hz
      rcases List.mem_cons.1 hz with rfl | hz
      · exact h
      · have := hy z hz; omega
    · split
      · rename_i h1 h2
        exact List.pairwise_cons.2 ⟨fun z hz => by have := hy z hz; omega, hys⟩
      · rename_i h1 h2
        refine List.pairwise_cons.2 ⟨?_, ih hys⟩
        intro z hz
        rcases (mem_insertNotice hys).1 hz with rfl | ⟨hz, -⟩
        · omega
        · exact hy z hz

/-- The notices of a set after a removal: all but those of the kind and key (R145). -/
theorem mem_dropNotice {k : NoticeKind} {i : Slot} {x : Notice} {l : List Notice} :
    x ∈ dropNotice k i l ↔ x ∈ l ∧ ¬(x.kind = k ∧ x.key = i) := by
  simp [dropNotice, imp_iff_not_or]

/-- Removal keeps the order of a set. -/
theorem dropNotice_rising {k : NoticeKind} {i : Slot} {l : List Notice} (hl : RisingRanks l) :
    RisingRanks (dropNotice k i l) := by
  unfold dropNotice; exact List.Pairwise.filter _ hl

/-- Raising adds at most one notice. -/
theorem insertNotice_length_le (n : Notice) (l : List Notice) : (insertNotice n l).length ≤ l.length + 1 := by
  induction l with
  | nil => simp [insertNotice]
  | cons y ys ih =>
    unfold insertNotice
    split
    · simp
    · split
      · simp
      · simpa using ih

/-- A raised notice is in the set. -/
theorem self_mem_insertNotice (n : Notice) (l : List Notice) : n ∈ insertNotice n l := by
  induction l with
  | nil => simp [insertNotice]
  | cons y ys ih =>
    unfold insertNotice
    split
    · simp
    · split
      · simp
      · exact List.mem_cons_of_mem _ ih

/-! ### What raising, removing and entering leave of a state -/
@[simp] theorem raiseNotice_window (m : Master) (n : Notice) (s : State) (j : Slot) :
    (raiseNotice m n s).window j = s.window j := rfl

@[simp] theorem raiseNotice_port (m : Master) (n : Notice) (s : State) (j : Master) :
    (raiseNotice m n s).port j = s.port j := rfl

@[simp] theorem raiseNotice_mailbox (m : Master) (n : Notice) (s : State) (j : Master) :
    (raiseNotice m n s).mailbox j = s.mailbox j := rfl

@[simp] theorem raiseNotice_target (m : Master) (n : Notice) (s : State) (j : Target) :
    (raiseNotice m n s).target j = s.target j := rfl

@[simp] theorem raiseNotice_engine (m : Master) (n : Notice) (s : State) : (raiseNotice m n s).engine = s.engine := rfl

@[simp] theorem raiseNotice_timer (m : Master) (n : Notice) (s : State) : (raiseNotice m n s).timer = s.timer := rfl

@[simp] theorem raiseNotice_resolverPointer (m : Master) (n : Notice) (s : State) : (raiseNotice m n s).resolverPointer = s.resolverPointer := rfl

@[simp] theorem raiseNotice_drst (m : Master) (n : Notice) (s : State) : (raiseNotice m n s).drst = s.drst := rfl

@[simp] theorem raiseNotice_pending (m : Master) (n : Notice) (s : State) : (raiseNotice m n s).pending = s.pending := rfl

/-- Raising reaches the set of one master, and nothing else of its record (R144). -/
theorem raiseNotice_master (m : Master) (n : Notice) (s : State) (j : Master) :
    (raiseNotice m n s).master j =
      if j = m then { s.master m with notices := insertNotice n (s.master m).notices } else s.master j := by
  simp [raiseNotice]

@[simp] theorem removeNotice_window (m : Master) (k : NoticeKind) (i : Slot) (s : State) (j : Slot) :
    (removeNotice m k i s).window j = s.window j := rfl

@[simp] theorem removeNotice_port (m : Master) (k : NoticeKind) (i : Slot) (s : State) (j : Master) :
    (removeNotice m k i s).port j = s.port j := rfl

@[simp] theorem removeNotice_mailbox (m : Master) (k : NoticeKind) (i : Slot) (s : State) (j : Master) :
    (removeNotice m k i s).mailbox j = s.mailbox j := rfl

@[simp] theorem removeNotice_target (m : Master) (k : NoticeKind) (i : Slot) (s : State) (j : Target) :
    (removeNotice m k i s).target j = s.target j := rfl

@[simp] theorem removeNotice_engine (m : Master) (k : NoticeKind) (i : Slot) (s : State) : (removeNotice m k i s).engine = s.engine := rfl

@[simp] theorem removeNotice_timer (m : Master) (k : NoticeKind) (i : Slot) (s : State) : (removeNotice m k i s).timer = s.timer := rfl

@[simp] theorem removeNotice_resolverPointer (m : Master) (k : NoticeKind) (i : Slot) (s : State) : (removeNotice m k i s).resolverPointer = s.resolverPointer := rfl

@[simp] theorem removeNotice_drst (m : Master) (k : NoticeKind) (i : Slot) (s : State) : (removeNotice m k i s).drst = s.drst := rfl

@[simp] theorem removeNotice_pending (m : Master) (k : NoticeKind) (i : Slot) (s : State) : (removeNotice m k i s).pending = s.pending := rfl

/-- Removing reaches the set of one master, and nothing else of its record (R145). -/
theorem removeNotice_master (m : Master) (k : NoticeKind) (i : Slot) (s : State) (j : Master) :
    (removeNotice m k i s).master j =
      if j = m then { s.master m with notices := dropNotice k i (s.master m).notices } else s.master j := by
  simp [removeNotice]

@[simp] theorem enterReport_window (m : Master) (r : FaultReport) (s : State) (j : Slot) :
    (enterReport m r s).window j = s.window j := rfl

@[simp] theorem enterReport_port (m : Master) (r : FaultReport) (s : State) (j : Master) :
    (enterReport m r s).port j = s.port j := rfl

@[simp] theorem enterReport_mailbox (m : Master) (r : FaultReport) (s : State) (j : Master) :
    (enterReport m r s).mailbox j = s.mailbox j := rfl

@[simp] theorem enterReport_target (m : Master) (r : FaultReport) (s : State) (j : Target) :
    (enterReport m r s).target j = s.target j := rfl

@[simp] theorem enterReport_engine (m : Master) (r : FaultReport) (s : State) : (enterReport m r s).engine = s.engine := rfl

@[simp] theorem enterReport_timer (m : Master) (r : FaultReport) (s : State) : (enterReport m r s).timer = s.timer := rfl

@[simp] theorem enterReport_resolverPointer (m : Master) (r : FaultReport) (s : State) : (enterReport m r s).resolverPointer = s.resolverPointer := rfl

@[simp] theorem enterReport_drst (m : Master) (r : FaultReport) (s : State) : (enterReport m r s).drst = s.drst := rfl

@[simp] theorem enterReport_pending (m : Master) (r : FaultReport) (s : State) : (enterReport m r s).pending = s.pending := rfl

/-- A report reaches the record, the set and perhaps the state of one master (R134, R138). -/
theorem enterReport_master (m : Master) (r : FaultReport) (s : State) (j : Master) :
    (enterReport m r s).master j =
      if j = m then
        { s.master m with
          faultRecord := some (enterRecord (s.master m).faultRecord r)
          notices := insertNotice faultNotice (s.master m).notices
          state := if r.kind.holds && (s.master m).policy == .hold then .held else (s.master m).state }
      else s.master j := by
  simp [enterReport]

end Sys2Proof.Machine
end

