-- ==== Sys2Proof/Laws/Ops.lean ====
section
/-! SUPPORT. What each shared operation can do: the records it leaves alone, the fields it leaves alone in the records it
reaches, and its effect on the record it is about. -/

namespace Sys2Proof.Machine

/-! ### Fields of a master record that notices do not reach -/

@[simp] theorem raiseNotice_master_state (m : Master) (n : Notice) (s : State) (j : Master) :
    ((raiseNotice m n s).master j).state = (s.master j).state := by
  rw [raiseNotice_master]; split
  · rename_i h; rw [h]
  · rfl

@[simp] theorem raiseNotice_master_policy (m : Master) (n : Notice) (s : State) (j : Master) :
    ((raiseNotice m n s).master j).policy = (s.master j).policy := by
  rw [raiseNotice_master]; split
  · rename_i h; rw [h]
  · rfl

@[simp] theorem raiseNotice_master_disposition (m : Master) (n : Notice) (s : State) (j : Master) :
    ((raiseNotice m n s).master j).disposition = (s.master j).disposition := by
  rw [raiseNotice_master]; split
  · rename_i h; rw [h]
  · rfl

@[simp] theorem raiseNotice_master_quota (m : Master) (n : Notice) (s : State) (j : Master) :
    ((raiseNotice m n s).master j).quota = (s.master j).quota := by
  rw [raiseNotice_master]; split
  · rename_i h; rw [h]
  · rfl

@[simp] theorem raiseNotice_master_faultRecord (m : Master) (n : Notice) (s : State) (j : Master) :
    ((raiseNotice m n s).master j).faultRecord = (s.master j).faultRecord := by
  rw [raiseNotice_master]; split
  · rename_i h; rw [h]
  · rfl

@[simp] theorem raiseNotice_master_order (m : Master) (n : Notice) (s : State) (j : Master) :
    ((raiseNotice m n s).master j).order = (s.master j).order := by
  rw [raiseNotice_master]; split
  · rename_i h; rw [h]
  · rfl

@[simp] theorem raiseNotice_master_enables (m : Master) (n : Notice) (s : State) (j : Master) :
    ((raiseNotice m n s).master j).enables = (s.master j).enables := by
  rw [raiseNotice_master]; split
  · rename_i h; rw [h]
  · rfl

@[simp] theorem removeNotice_master_state (m : Master) (k : NoticeKind) (i : Slot) (s : State) (j : Master) :
    ((removeNotice m k i s).master j).state = (s.master j).state := by
  rw [removeNotice_master]; split
  · rename_i h; rw [h]
  · rfl

@[simp] theorem removeNotice_master_policy (m : Master) (k : NoticeKind) (i : Slot) (s : State) (j : Master) :
    ((removeNotice m k i s).master j).policy = (s.master j).policy := by
  rw [removeNotice_master]; split
  · rename_i h; rw [h]
  · rfl

@[simp] theorem removeNotice_master_disposition (m : Master) (k : NoticeKind) (i : Slot) (s : State) (j : Master) :
    ((removeNotice m k i s).master j).disposition = (s.master j).disposition := by
  rw [removeNotice_master]; split
  · rename_i h; rw [h]
  · rfl

@[simp] theorem removeNotice_master_quota (m : Master) (k : NoticeKind) (i : Slot) (s : State) (j : Master) :
    ((removeNotice m k i s).master j).quota = (s.master j).quota := by
  rw [removeNotice_master]; split
  · rename_i h; rw [h]
  · rfl

@[simp] theorem removeNotice_master_faultRecord (m : Master) (k : NoticeKind) (i : Slot) (s : State) (j : Master) :
    ((removeNotice m k i s).master j).faultRecord = (s.master j).faultRecord := by
  rw [removeNotice_master]; split
  · rename_i h; rw [h]
  · rfl

@[simp] theorem removeNotice_master_order (m : Master) (k : NoticeKind) (i : Slot) (s : State) (j : Master) :
    ((removeNotice m k i s).master j).order = (s.master j).order := by
  rw [removeNotice_master]; split
  · rename_i h; rw [h]
  · rfl

@[simp] theorem removeNotice_master_enables (m : Master) (k : NoticeKind) (i : Slot) (s : State) (j : Master) :
    ((removeNotice m k i s).master j).enables = (s.master j).enables := by
  rw [removeNotice_master]; split
  · rename_i h; rw [h]
  · rfl

@[simp] theorem raiseNotice_master_notices (m : Master) (n : Notice) (s : State) (j : Master) :
    ((raiseNotice m n s).master j).notices = if j = m then insertNotice n (s.master m).notices else (s.master j).notices := by
  rw [raiseNotice_master]; split <;> rfl

@[simp] theorem removeNotice_master_notices (m : Master) (k : NoticeKind) (i : Slot) (s : State) (j : Master) :
    ((removeNotice m k i s).master j).notices = if j = m then dropNotice k i (s.master m).notices else (s.master j).notices := by
  rw [removeNotice_master]; split <;> rfl

/-! ### A response falling due -/

@[simp] theorem answer_window (m : Master) (r : Response) (o : Option FaultReport) (s : State) (j : Slot) :
    (answer m r o s).window j = s.window j := by
  unfold answer; split; · rfl
  · cases o <;> rfl

@[simp] theorem answer_mailbox (m : Master) (r : Response) (o : Option FaultReport) (s : State) (j : Master) :
    (answer m r o s).mailbox j = s.mailbox j := by
  unfold answer; split; · rfl
  · cases o <;> rfl

@[simp] theorem answer_target (m : Master) (r : Response) (o : Option FaultReport) (s : State) (j : Target) :
    (answer m r o s).target j = s.target j := by
  unfold answer; split; · rfl
  · cases o <;> rfl

@[simp] theorem answer_engine (m : Master) (r : Response) (o : Option FaultReport) (s : State) : (answer m r o s).engine = s.engine := by
  unfold answer; split; · rfl
  · cases o <;> rfl

@[simp] theorem answer_timer (m : Master) (r : Response) (o : Option FaultReport) (s : State) : (answer m r o s).timer = s.timer := by
  unfold answer; split; · rfl
  · cases o <;> rfl

@[simp] theorem answer_resolverPointer (m : Master) (r : Response) (o : Option FaultReport) (s : State) : (answer m r o s).resolverPointer = s.resolverPointer := by
  unfold answer; split; · rfl
  · cases o <;> rfl

@[simp] theorem answer_drst (m : Master) (r : Response) (o : Option FaultReport) (s : State) : (answer m r o s).drst = s.drst := by
  unfold answer; split; · rfl
  · cases o <;> rfl

@[simp] theorem answer_pending (m : Master) (r : Response) (o : Option FaultReport) (s : State) : (answer m r o s).pending = s.pending := by
  unfold answer; split; · rfl
  · cases o <;> rfl

/-- Only the port of the master is reached. -/
theorem answer_port_of_ne (m : Master) (r : Response) (o : Option FaultReport) (s : State) {j : Master} (h : j ≠ m) :
    (answer m r o s).port j = s.port j := by
  unfold answer; split
  · simp [h]
  · cases o <;> simp [h]

/-- A dropped response frees its tag; any other joins the response list (R39, R43). -/
theorem answer_port_self (m : Master) (r : Response) (o : Option FaultReport) (s : State) :
    (answer m r o s).port m =
      if (s.port m).dropped r.tag then
        { (s.port m).setTag r.tag .free with
          reopenWait := (s.port m).reopenWait && ((s.port m).setTag r.tag .free).outstanding != 0 }
      else { s.port m with responses := (s.port m).responses ++ [r] } := by
  unfold answer; split
  · simp
  · cases o <;> simp

/-- Only the record of the master is reached, and only by a report that is not dropped with its response (R43, R134). -/
theorem answer_master (m : Master) (r : Response) (o : Option FaultReport) (s : State) (j : Master) :
    (answer m r o s).master j =
      match o with
      | none => s.master j
      | some f => if (s.port m).dropped r.tag then s.master j else (enterReport m f s).master j := by
  unfold answer; split
  · cases o <;> simp
  · cases o <;> simp [enterReport_master]

@[simp] theorem answer_master_policy (m : Master) (r : Response) (o : Option FaultReport) (s : State) (j : Master) :
    ((answer m r o s).master j).policy = (s.master j).policy := by
  rw [answer_master]; cases o
  · rfl
  · simp only []
    split
    · rfl
    · rw [enterReport_master]; split
      · rename_i h; rw [h]
      · rfl

@[simp] theorem answer_master_disposition (m : Master) (r : Response) (o : Option FaultReport) (s : State) (j : Master) :
    ((answer m r o s).master j).disposition = (s.master j).disposition := by
  rw [answer_master]; cases o
  · rfl
  · simp only []
    split
    · rfl
    · rw [enterReport_master]; split
      · rename_i h; rw [h]
      · rfl

@[simp] theorem answer_master_quota (m : Master) (r : Response) (o : Option FaultReport) (s : State) (j : Master) :
    ((answer m r o s).master j).quota = (s.master j).quota := by
  rw [answer_master]; cases o
  · rfl
  · simp only []
    split
    · rfl
    · rw [enterReport_master]; split
      · rename_i h; rw [h]
      · rfl

@[simp] theorem answer_master_order (m : Master) (r : Response) (o : Option FaultReport) (s : State) (j : Master) :
    ((answer m r o s).master j).order = (s.master j).order := by
  rw [answer_master]; cases o
  · rfl
  · simp only []
    split
    · rfl
    · rw [enterReport_master]; split
      · rename_i h; rw [h]
      · rfl

@[simp] theorem answer_master_enables (m : Master) (r : Response) (o : Option FaultReport) (s : State) (j : Master) :
    ((answer m r o s).master j).enables = (s.master j).enables := by
  rw [answer_master]; cases o
  · rfl
  · simp only []
    split
    · rfl
    · rw [enterReport_master]; split
      · rename_i h; rw [h]
      · rfl

/-- Waiting lists are not reached. -/
@[simp] theorem answer_waitingFor (m : Master) (r : Response) (o : Option FaultReport) (s : State) (j : Master)
    (t : Target) : ((answer m r o s).port j).waitingFor t = (s.port j).waitingFor t := by
  by_cases h : j = m
  · subst h; rw [answer_port_self]; split <;> rfl
  · rw [answer_port_of_ne m r o s h]

/-! ### A slot becoming FREE, and the in-flight count -/

/-- The slot is FREE at the next generation, and no other slot changes (R20). -/
@[simp] theorem freeSlot_window (i : Slot) (c : RetireNotice) (s : State) (j : Slot) :
    (freeSlot i c s).window j = if j = i then freeWindow ((s.window i).gen + 1) else s.window j := by
  unfold freeSlot; simp only []; split <;> simp

@[simp] theorem freeSlot_port (i : Slot) (c : RetireNotice) (s : State) (j : Master) :
    (freeSlot i c s).port j = s.port j := by
  unfold freeSlot; simp only []; split <;> simp

@[simp] theorem freeSlot_mailbox (i : Slot) (c : RetireNotice) (s : State) (j : Master) :
    (freeSlot i c s).mailbox j = s.mailbox j := by
  unfold freeSlot; simp only []; split <;> simp

@[simp] theorem freeSlot_target (i : Slot) (c : RetireNotice) (s : State) (j : Target) :
    (freeSlot i c s).target j = s.target j := by
  unfold freeSlot; simp only []; split <;> simp

@[simp] theorem freeSlot_engine (i : Slot) (c : RetireNotice) (s : State) : (freeSlot i c s).engine = s.engine := by
  unfold freeSlot; simp only []; split <;> simp

@[simp] theorem freeSlot_timer (i : Slot) (c : RetireNotice) (s : State) : (freeSlot i c s).timer = s.timer := by
  unfold freeSlot; simp only []; split <;> simp

@[simp] theorem freeSlot_resolverPointer (i : Slot) (c : RetireNotice) (s : State) : (freeSlot i c s).resolverPointer = s.resolverPointer := by
  unfold freeSlot; simp only []; split <;> simp

@[simp] theorem freeSlot_drst (i : Slot) (c : RetireNotice) (s : State) : (freeSlot i c s).drst = s.drst := by
  unfold freeSlot; simp only []; split <;> simp

@[simp] theorem freeSlot_pending (i : Slot) (c : RetireNotice) (s : State) : (freeSlot i c s).pending = s.pending := by
  unfold freeSlot; simp only []; split <;> simp

@[simp] theorem freeSlot_master_state (i : Slot) (c : RetireNotice) (s : State) (j : Master) :
    ((freeSlot i c s).master j).state = (s.master j).state := by
  unfold freeSlot; simp only []; split <;> simp

@[simp] theorem freeSlot_master_policy (i : Slot) (c : RetireNotice) (s : State) (j : Master) :
    ((freeSlot i c s).master j).policy = (s.master j).policy := by
  unfold freeSlot; simp only []; split <;> simp

@[simp] theorem freeSlot_master_disposition (i : Slot) (c : RetireNotice) (s : State) (j : Master) :
    ((freeSlot i c s).master j).disposition = (s.master j).disposition := by
  unfold freeSlot; simp only []; split <;> simp

@[simp] theorem freeSlot_master_quota (i : Slot) (c : RetireNotice) (s : State) (j : Master) :
    ((freeSlot i c s).master j).quota = (s.master j).quota := by
  unfold freeSlot; simp only []; split <;> simp

@[simp] theorem freeSlot_master_faultRecord (i : Slot) (c : RetireNotice) (s : State) (j : Master) :
    ((freeSlot i c s).master j).faultRecord = (s.master j).faultRecord := by
  unfold freeSlot; simp only []; split <;> simp

@[simp] theorem freeSlot_master_order (i : Slot) (c : RetireNotice) (s : State) (j : Master) :
    ((freeSlot i c s).master j).order = (s.master j).order := by
  unfold freeSlot; simp only []; split <;> simp

@[simp] theorem freeSlot_master_enables (i : Slot) (c : RetireNotice) (s : State) (j : Master) :
    ((freeSlot i c s).master j).enables = (s.master j).enables := by
  unfold freeSlot; simp only []; split <;> simp

/-- The count falls by one, and a DRAINING window reaching 0 becomes FREE (R14, R19). -/
@[simp] theorem countOut_window (i : Slot) (s : State) (j : Slot) :
    (countOut i s).window j =
      if j = i then
        if (s.window i).state == .draining && (s.window i).inFlight - 1 == 0 then freeWindow ((s.window i).gen + 1)
        else { s.window i with inFlight := (s.window i).inFlight - 1 }
      else s.window j := by
  unfold countOut; simp only []; split <;> simp

@[simp] theorem countOut_port (i : Slot) (s : State) (j : Master) :
    (countOut i s).port j = s.port j := by
  unfold countOut; simp only []; split <;> simp

@[simp] theorem countOut_mailbox (i : Slot) (s : State) (j : Master) :
    (countOut i s).mailbox j = s.mailbox j := by
  unfold countOut; simp only []; split <;> simp

@[simp] theorem countOut_target (i : Slot) (s : State) (j : Target) :
    (countOut i s).target j = s.target j := by
  unfold countOut; simp only []; split <;> simp

@[simp] theorem countOut_engine (i : Slot) (s : State) : (countOut i s).engine = s.engine := by
  unfold countOut; simp only []; split <;> simp

@[simp] theorem countOut_timer (i : Slot) (s : State) : (countOut i s).timer = s.timer := by
  unfold countOut; simp only []; split <;> simp

@[simp] theorem countOut_resolverPointer (i : Slot) (s : State) : (countOut i s).resolverPointer = s.resolverPointer := by
  unfold countOut; simp only []; split <;> simp

@[simp] theorem countOut_drst (i : Slot) (s : State) : (countOut i s).drst = s.drst := by
  unfold countOut; simp only []; split <;> simp

@[simp] theorem countOut_pending (i : Slot) (s : State) : (countOut i s).pending = s.pending := by
  unfold countOut; simp only []; split <;> simp

@[simp] theorem countOut_master_state (i : Slot) (s : State) (j : Master) :
    ((countOut i s).master j).state = (s.master j).state := by
  unfold countOut; simp only []; split <;> simp

@[simp] theorem countOut_master_policy (i : Slot) (s : State) (j : Master) :
    ((countOut i s).master j).policy = (s.master j).policy := by
  unfold countOut; simp only []; split <;> simp

@[simp] theorem countOut_master_disposition (i : Slot) (s : State) (j : Master) :
    ((countOut i s).master j).disposition = (s.master j).disposition := by
  unfold countOut; simp only []; split <;> simp

@[simp] theorem countOut_master_quota (i : Slot) (s : State) (j : Master) :
    ((countOut i s).master j).quota = (s.master j).quota := by
  unfold countOut; simp only []; split <;> simp

@[simp] theorem countOut_master_faultRecord (i : Slot) (s : State) (j : Master) :
    ((countOut i s).master j).faultRecord = (s.master j).faultRecord := by
  unfold countOut; simp only []; split <;> simp

@[simp] theorem countOut_master_order (i : Slot) (s : State) (j : Master) :
    ((countOut i s).master j).order = (s.master j).order := by
  unfold countOut; simp only []; split <;> simp

@[simp] theorem countOut_master_enables (i : Slot) (s : State) (j : Master) :
    ((countOut i s).master j).enables = (s.master j).enables := by
  unfold countOut; simp only []; split <;> simp

/-! ### The ends of an offer -/

/-- The offer is cleared, and nothing else of the window changes. -/
@[simp] theorem withdrawOffer_window (i : Slot) (s : State) (j : Slot) :
    (withdrawOffer i s).window j = if j = i then { s.window i with offer := none } else s.window j := by
  unfold withdrawOffer
  simp only []
  split
  · rename_i h
    split
    · rename_i e; rw [e, ← h]
    · rfl
  · simp

@[simp] theorem withdrawOffer_port (i : Slot) (s : State) (j : Master) :
    (withdrawOffer i s).port j = s.port j := by
  unfold withdrawOffer; simp only []; split <;> simp

@[simp] theorem withdrawOffer_mailbox (i : Slot) (s : State) (j : Master) :
    (withdrawOffer i s).mailbox j = s.mailbox j := by
  unfold withdrawOffer; simp only []; split <;> simp

@[simp] theorem withdrawOffer_target (i : Slot) (s : State) (j : Target) :
    (withdrawOffer i s).target j = s.target j := by
  unfold withdrawOffer; simp only []; split <;> simp

@[simp] theorem withdrawOffer_engine (i : Slot) (s : State) : (withdrawOffer i s).engine = s.engine := by
  unfold withdrawOffer; simp only []; split <;> simp

@[simp] theorem withdrawOffer_timer (i : Slot) (s : State) : (withdrawOffer i s).timer = s.timer := by
  unfold withdrawOffer; simp only []; split <;> simp

@[simp] theorem withdrawOffer_resolverPointer (i : Slot) (s : State) : (withdrawOffer i s).resolverPointer = s.resolverPointer := by
  unfold withdrawOffer; simp only []; split <;> simp

@[simp] theorem withdrawOffer_drst (i : Slot) (s : State) : (withdrawOffer i s).drst = s.drst := by
  unfold withdrawOffer; simp only []; split <;> simp

@[simp] theorem withdrawOffer_pending (i : Slot) (s : State) : (withdrawOffer i s).pending = s.pending := by
  unfold withdrawOffer; simp only []; split <;> simp

@[simp] theorem withdrawOffer_master_state (i : Slot) (s : State) (j : Master) :
    ((withdrawOffer i s).master j).state = (s.master j).state := by
  unfold withdrawOffer; simp only []; split <;> simp

@[simp] theorem withdrawOffer_master_policy (i : Slot) (s : State) (j : Master) :
    ((withdrawOffer i s).master j).policy = (s.master j).policy := by
  unfold withdrawOffer; simp only []; split <;> simp

@[simp] theorem withdrawOffer_master_disposition (i : Slot) (s : State) (j : Master) :
    ((withdrawOffer i s).master j).disposition = (s.master j).disposition := by
  unfold withdrawOffer; simp only []; split <;> simp

@[simp] theorem withdrawOffer_master_quota (i : Slot) (s : State) (j : Master) :
    ((withdrawOffer i s).master j).quota = (s.master j).quota := by
  unfold withdrawOffer; simp only []; split <;> simp

@[simp] theorem withdrawOffer_master_faultRecord (i : Slot) (s : State) (j : Master) :
    ((withdrawOffer i s).master j).faultRecord = (s.master j).faultRecord := by
  unfold withdrawOffer; simp only []; split <;> simp

@[simp] theorem withdrawOffer_master_order (i : Slot) (s : State) (j : Master) :
    ((withdrawOffer i s).master j).order = (s.master j).order := by
  unfold withdrawOffer; simp only []; split <;> simp

@[simp] theorem withdrawOffer_master_enables (i : Slot) (s : State) (j : Master) :
    ((withdrawOffer i s).master j).enables = (s.master j).enables := by
  unfold withdrawOffer; simp only []; split <;> simp

/-- The offer is cleared and the window ACTIVE; a window without an offer stays as it is (R124, R129). -/
@[simp] theorem declineOffer_window (i : Slot) (s : State) (j : Slot) :
    (declineOffer i s).window j =
      if j = i ∧ (s.window i).offer.isSome = true then { s.window i with offer := none, state := .active }
      else s.window j := by
  unfold declineOffer
  simp only []
  split
  · rename_i h; simp [h]
  · rename_i h; simp [h]

@[simp] theorem declineOffer_port (i : Slot) (s : State) (j : Master) :
    (declineOffer i s).port j = s.port j := by
  unfold declineOffer; simp only []; split <;> simp

@[simp] theorem declineOffer_mailbox (i : Slot) (s : State) (j : Master) :
    (declineOffer i s).mailbox j = s.mailbox j := by
  unfold declineOffer; simp only []; split <;> simp

@[simp] theorem declineOffer_target (i : Slot) (s : State) (j : Target) :
    (declineOffer i s).target j = s.target j := by
  unfold declineOffer; simp only []; split <;> simp

@[simp] theorem declineOffer_engine (i : Slot) (s : State) : (declineOffer i s).engine = s.engine := by
  unfold declineOffer; simp only []; split <;> simp

@[simp] theorem declineOffer_timer (i : Slot) (s : State) : (declineOffer i s).timer = s.timer := by
  unfold declineOffer; simp only []; split <;> simp

@[simp] theorem declineOffer_resolverPointer (i : Slot) (s : State) : (declineOffer i s).resolverPointer = s.resolverPointer := by
  unfold declineOffer; simp only []; split <;> simp

@[simp] theorem declineOffer_drst (i : Slot) (s : State) : (declineOffer i s).drst = s.drst := by
  unfold declineOffer; simp only []; split <;> simp

@[simp] theorem declineOffer_pending (i : Slot) (s : State) : (declineOffer i s).pending = s.pending := by
  unfold declineOffer; simp only []; split <;> simp

@[simp] theorem declineOffer_master_state (i : Slot) (s : State) (j : Master) :
    ((declineOffer i s).master j).state = (s.master j).state := by
  unfold declineOffer; simp only []; split <;> simp

@[simp] theorem declineOffer_master_policy (i : Slot) (s : State) (j : Master) :
    ((declineOffer i s).master j).policy = (s.master j).policy := by
  unfold declineOffer; simp only []; split <;> simp

@[simp] theorem declineOffer_master_disposition (i : Slot) (s : State) (j : Master) :
    ((declineOffer i s).master j).disposition = (s.master j).disposition := by
  unfold declineOffer; simp only []; split <;> simp

@[simp] theorem declineOffer_master_quota (i : Slot) (s : State) (j : Master) :
    ((declineOffer i s).master j).quota = (s.master j).quota := by
  unfold declineOffer; simp only []; split <;> simp

@[simp] theorem declineOffer_master_faultRecord (i : Slot) (s : State) (j : Master) :
    ((declineOffer i s).master j).faultRecord = (s.master j).faultRecord := by
  unfold declineOffer; simp only []; split <;> simp

@[simp] theorem declineOffer_master_order (i : Slot) (s : State) (j : Master) :
    ((declineOffer i s).master j).order = (s.master j).order := by
  unfold declineOffer; simp only []; split <;> simp

@[simp] theorem declineOffer_master_enables (i : Slot) (s : State) (j : Master) :
    ((declineOffer i s).master j).enables = (s.master j).enables := by
  unfold declineOffer; simp only []; split <;> simp

@[simp] theorem reactivate_window (i : Slot) (s : State) (j : Slot) :
    (reactivate i s).window j = if j = i then { s.window i with state := .active } else s.window j := by
  simp [reactivate]

@[simp] theorem reactivate_port (i : Slot) (s : State) (j : Master) :
    (reactivate i s).port j = s.port j := by
  rfl

@[simp] theorem reactivate_mailbox (i : Slot) (s : State) (j : Master) :
    (reactivate i s).mailbox j = s.mailbox j := by
  rfl

@[simp] theorem reactivate_target (i : Slot) (s : State) (j : Target) :
    (reactivate i s).target j = s.target j := by
  rfl

@[simp] theorem reactivate_engine (i : Slot) (s : State) : (reactivate i s).engine = s.engine := by
  rfl

@[simp] theorem reactivate_timer (i : Slot) (s : State) : (reactivate i s).timer = s.timer := by
  rfl

@[simp] theorem reactivate_resolverPointer (i : Slot) (s : State) : (reactivate i s).resolverPointer = s.resolverPointer := by
  rfl

@[simp] theorem reactivate_drst (i : Slot) (s : State) : (reactivate i s).drst = s.drst := by
  rfl

@[simp] theorem reactivate_pending (i : Slot) (s : State) : (reactivate i s).pending = s.pending := by
  rfl

@[simp] theorem reactivate_master (i : Slot) (s : State) (j : Master) :
    (reactivate i s).master j = s.master j := rfl

/-! ### Retirement -/

/-- The window is FREE at the next generation when nothing was in flight, and otherwise DRAINING with the retirement
notice of its cause, its countdowns and its offer cleared (R16, R17). -/
theorem retire_window (c : RetireCause) (i : Slot) (s : State) (j : Slot) :
    (retire c i s).window j =
      if j = i then
        if (s.window i).inFlight == 0 then freeWindow ((s.window i).gen + 1)
        else
          { s.window i with
            leaseRemaining := 0, warned := false, graceRemaining := 0, offer := none, state := .draining
            retireNotice := c.drainNotice }
      else s.window j := by
  unfold retire
  simp only []
  by_cases h : j = i
  · subst h
    by_cases h0 : (s.window j).inFlight = 0 <;> by_cases h1 : c.revokes (s.window j).holder <;> simp [h0, h1]
  · by_cases h0 : (s.window i).inFlight = 0 <;> by_cases h1 : c.revokes (s.window i).holder <;> simp [h, h0, h1]

@[simp] theorem retire_port (c : RetireCause) (i : Slot) (s : State) (j : Master) :
    (retire c i s).port j = s.port j := by
  unfold retire; simp only []; split <;> split <;> simp

@[simp] theorem retire_mailbox (c : RetireCause) (i : Slot) (s : State) (j : Master) :
    (retire c i s).mailbox j = s.mailbox j := by
  unfold retire; simp only []; split <;> split <;> simp

@[simp] theorem retire_target (c : RetireCause) (i : Slot) (s : State) (j : Target) :
    (retire c i s).target j = s.target j := by
  unfold retire; simp only []; split <;> split <;> simp

@[simp] theorem retire_engine (c : RetireCause) (i : Slot) (s : State) : (retire c i s).engine = s.engine := by
  unfold retire; simp only []; split <;> split <;> simp

@[simp] theorem retire_timer (c : RetireCause) (i : Slot) (s : State) : (retire c i s).timer = s.timer := by
  unfold retire; simp only []; split <;> split <;> simp

@[simp] theorem retire_resolverPointer (c : RetireCause) (i : Slot) (s : State) : (retire c i s).resolverPointer = s.resolverPointer := by
  unfold retire; simp only []; split <;> split <;> simp

@[simp] theorem retire_drst (c : RetireCause) (i : Slot) (s : State) : (retire c i s).drst = s.drst := by
  unfold retire; simp only []; split <;> split <;> simp

@[simp] theorem retire_pending (c : RetireCause) (i : Slot) (s : State) : (retire c i s).pending = s.pending := by
  unfold retire; simp only []; split <;> split <;> simp

@[simp] theorem retire_master_state (c : RetireCause) (i : Slot) (s : State) (j : Master) :
    ((retire c i s).master j).state = (s.master j).state := by
  unfold retire; simp only []; split <;> split <;> simp

@[simp] theorem retire_master_policy (c : RetireCause) (i : Slot) (s : State) (j : Master) :
    ((retire c i s).master j).policy = (s.master j).policy := by
  unfold retire; simp only []; split <;> split <;> simp

@[simp] theorem retire_master_disposition (c : RetireCause) (i : Slot) (s : State) (j : Master) :
    ((retire c i s).master j).disposition = (s.master j).disposition := by
  unfold retire; simp only []; split <;> split <;> simp

@[simp] theorem retire_master_quota (c : RetireCause) (i : Slot) (s : State) (j : Master) :
    ((retire c i s).master j).quota = (s.master j).quota := by
  unfold retire; simp only []; split <;> split <;> simp

@[simp] theorem retire_master_faultRecord (c : RetireCause) (i : Slot) (s : State) (j : Master) :
    ((retire c i s).master j).faultRecord = (s.master j).faultRecord := by
  unfold retire; simp only []; split <;> split <;> simp

@[simp] theorem retire_master_order (c : RetireCause) (i : Slot) (s : State) (j : Master) :
    ((retire c i s).master j).order = (s.master j).order := by
  unfold retire; simp only []; split <;> split <;> simp

@[simp] theorem retire_master_enables (c : RetireCause) (i : Slot) (s : State) (j : Master) :
    ((retire c i s).master j).enables = (s.master j).enables := by
  unfold retire; simp only []; split <;> split <;> simp

/-! ### The end of an access at its target -/

/-- The slot's count falls as `countOut` says, and no other window is reached. -/
@[simp] theorem endFaulted_window (k : FaultKind) (a : Resolved) (s : State) (j : Slot) :
    (endFaulted k a s).window j = (countOut a.slot s).window j := by
  unfold endFaulted; rw [answer_window]

@[simp] theorem endFaulted_mailbox (k : FaultKind) (a : Resolved) (s : State) (j : Master) :
    (endFaulted k a s).mailbox j = s.mailbox j := by
  unfold endFaulted; simp

@[simp] theorem endFaulted_target (k : FaultKind) (a : Resolved) (s : State) (j : Target) :
    (endFaulted k a s).target j = s.target j := by
  unfold endFaulted; simp

@[simp] theorem endFaulted_engine (k : FaultKind) (a : Resolved) (s : State) : (endFaulted k a s).engine = s.engine := by
  unfold endFaulted; simp

@[simp] theorem endFaulted_timer (k : FaultKind) (a : Resolved) (s : State) : (endFaulted k a s).timer = s.timer := by
  unfold endFaulted; simp

@[simp] theorem endFaulted_resolverPointer (k : FaultKind) (a : Resolved) (s : State) : (endFaulted k a s).resolverPointer = s.resolverPointer := by
  unfold endFaulted; simp

@[simp] theorem endFaulted_drst (k : FaultKind) (a : Resolved) (s : State) : (endFaulted k a s).drst = s.drst := by
  unfold endFaulted; simp

@[simp] theorem endFaulted_pending (k : FaultKind) (a : Resolved) (s : State) : (endFaulted k a s).pending = s.pending := by
  unfold endFaulted; simp

/-- Waiting lists are not reached. -/
@[simp] theorem endFaulted_waitingFor (k : FaultKind) (a : Resolved) (s : State) (j : Master) (t : Target) :
    ((endFaulted k a s).port j).waitingFor t = (s.port j).waitingFor t := by
  unfold endFaulted; simp

/-- The slot's count falls as `countOut` says, and no other window is reached. -/
@[simp] theorem endOk_window (a : Resolved) (d : ReadData) (s : State) (j : Slot) :
    (endOk a d s).window j = (countOut a.slot s).window j := by
  unfold endOk; rw [answer_window]

@[simp] theorem endOk_mailbox (a : Resolved) (d : ReadData) (s : State) (j : Master) :
    (endOk a d s).mailbox j = s.mailbox j := by
  unfold endOk; simp

@[simp] theorem endOk_target (a : Resolved) (d : ReadData) (s : State) (j : Target) :
    (endOk a d s).target j = s.target j := by
  unfold endOk; simp

@[simp] theorem endOk_engine (a : Resolved) (d : ReadData) (s : State) : (endOk a d s).engine = s.engine := by
  unfold endOk; simp

@[simp] theorem endOk_timer (a : Resolved) (d : ReadData) (s : State) : (endOk a d s).timer = s.timer := by
  unfold endOk; simp

@[simp] theorem endOk_resolverPointer (a : Resolved) (d : ReadData) (s : State) : (endOk a d s).resolverPointer = s.resolverPointer := by
  unfold endOk; simp

@[simp] theorem endOk_drst (a : Resolved) (d : ReadData) (s : State) : (endOk a d s).drst = s.drst := by
  unfold endOk; simp

@[simp] theorem endOk_pending (a : Resolved) (d : ReadData) (s : State) : (endOk a d s).pending = s.pending := by
  unfold endOk; simp

/-- Waiting lists are not reached. -/
@[simp] theorem endOk_waitingFor (a : Resolved) (d : ReadData) (s : State) (j : Master) (t : Target) :
    ((endOk a d s).port j).waitingFor t = (s.port j).waitingFor t := by
  unfold endOk; simp

/-! ### The completion of a command -/

/-- Every check passes exactly when there is no first failure (R77). -/
theorem firstFailure_eq_none {l : List (Bool × ResultCode)} : firstFailure l = none ↔ ∀ c ∈ l, c.1 = true := by
  induction l with
  | nil => simp [firstFailure]
  | cons c rest ih =>
    obtain ⟨b, r⟩ := c
    cases b <;> simp [firstFailure, ih]

/-- The first failure is the code of a check that fails, every earlier check passing (R77). -/
theorem firstFailure_eq_some {l : List (Bool × ResultCode)} {r : ResultCode} (h : firstFailure l = some r) :
    ∃ before after, l = before ++ (false, r) :: after ∧ ∀ c ∈ before, c.1 = true := by
  induction l with
  | nil => simp [firstFailure] at h
  | cons c rest ih =>
    obtain ⟨b, q⟩ := c
    cases b with
    | false =>
      simp only [firstFailure, Bool.false_eq_true, if_false, Option.some.injEq] at h
      exact ⟨[], rest, by simp [h], by simp⟩
    | true =>
      obtain ⟨before, after, e, hb⟩ := ih (by simpa [firstFailure] using h)
      exact ⟨(true, q) :: before, after, by simp [e], by simpa using hb⟩

/-- A command whose checks all pass has its effect. -/
theorem checked_of_pass {l : List (Bool × ResultCode)} {s : State} {c : Completion} (h : ∀ x ∈ l, x.1 = true) :
    checked l s c = c := by
  simp [checked, firstFailure_eq_none.2 h]

/-- A command with a failing check is refused with the first failure's code. -/
theorem checked_of_failure {l : List (Bool × ResultCode)} {s : State} {c : Completion} {r : ResultCode}
    (h : firstFailure l = some r) : checked l s c = refusal r s := by
  simp [checked, h]

/-- Completion of the command the engine executes (R75). -/
theorem completeCommand_of_executing {id : CmdId} {body : Master → Params → State → Completion} {s : State}
    {x : Execution} (h : s.engine.execution = some x) (hid : CmdId.ofCode x.command.toNat = some id) :
    completeCommand id body s = finish x (body x.master x.params s) := by
  simp [completeCommand, h, hid]

/-- No other row completes the command in execution (R75). -/
theorem completeCommand_of_other {id : CmdId} {body : Master → Params → State → Completion} {s : State}
    (h : ∀ x, s.engine.execution = some x → CmdId.ofCode x.command.toNat ≠ some id) :
    completeCommand id body s = s := by
  unfold completeCommand
  cases hx : s.engine.execution with
  | none => rfl
  | some x => simp [h x hx]

@[simp] theorem finish_window (x : Execution) (c : Completion) (j : Slot) :
    (finish x c).window j = c.state.window j := by unfold finish; simp only []; split <;> simp

@[simp] theorem finish_master (x : Execution) (c : Completion) (j : Master) :
    (finish x c).master j = c.state.master j := by unfold finish; simp only []; split <;> simp

@[simp] theorem finish_port (x : Execution) (c : Completion) (j : Master) :
    (finish x c).port j = c.state.port j := by unfold finish; simp only []; split <;> simp

@[simp] theorem finish_target (x : Execution) (c : Completion) (j : Target) :
    (finish x c).target j = c.state.target j := by unfold finish; simp only []; split <;> simp

@[simp] theorem finish_timer (x : Execution) (c : Completion) : (finish x c).timer = c.state.timer := by
  unfold finish; simp only []; split <;> simp

@[simp] theorem finish_engine (x : Execution) (c : Completion) :
    (finish x c).engine = { c.state.engine with execution := none } := by
  unfold finish; simp only []; split <;> simp

/-- The mailbox written at a completion, except for an orphaned command (R78, R80). -/
@[simp] theorem finish_mailbox (x : Execution) (c : Completion) (j : Master) :
    (finish x c).mailbox j =
      if j = x.master ∧ x.orphan = false then
        { c.state.mailbox j with state := .done, result := some c.code, words := c.words }
      else c.state.mailbox j := by
  unfold finish
  simp only []
  by_cases h : j = x.master
  · subst h; cases hx : x.orphan <;> simp
  · cases hx : x.orphan <;> simp [h]

end Sys2Proof.Machine
end

