-- ==== Sys2Proof/Laws/Commands.lean ====
section
/-! SUPPORT. The checks of the commands as the rules name them: pages that two ranges have in common, handle words, and
the first check that fails. -/

namespace Sys2Proof.Machine

open Sys2Proof.Safety

/-- The model's test for a page in common is the statement that there is one. -/
theorem rangesMeet_iff {a n b k : Nat} : rangesMeet a n b k = true ↔ Meet a n b k := by
  simp only [rangesMeet, decide_eq_true_eq, Meet]
  constructor
  · intro h
    exact ⟨max a b, by omega⟩
  · rintro ⟨page, h⟩
    omega

/-- Ranges that are apart have no page in common. -/
theorem not_meet_of_apart {a n b k : Nat} (h : Apart a n b k) : ¬ Meet a n b k := by
  rintro ⟨page, hp⟩
  unfold Apart at h
  omega

/-- A list of checks and a list of refusals that agree, place by place: a check passes when the refusal's condition does
not hold, and the codes are the same. -/
def ChecksAgree (checks : List (Bool × ResultCode)) (refusals : List (Prop × ResultCode)) : Prop :=
  List.Forall₂ (fun c r => (c.1 = true ↔ ¬ r.1) ∧ c.2 = r.2) checks refusals

/-- The first failing check of the model is the first condition that holds. -/
theorem firstFailure_eq_some_iff {checks : List (Bool × ResultCode)} {refusals : List (Prop × ResultCode)}
    (h : ChecksAgree checks refusals) {code : ResultCode} :
    firstFailure checks = some code ↔ RefusedWith refusals code := by
  induction h with
  | nil => simp [firstFailure, RefusedWith]
  | @cons c r cs rs hc _ ih =>
    obtain ⟨b, d⟩ := c
    obtain ⟨p, e⟩ := r
    obtain ⟨hb, rfl⟩ := hc
    cases b
    · have hp : p := by simpa using hb
      simp [firstFailure, RefusedWith, hp, eq_comm]
    · have hp : ¬ p := by simpa using hb
      simp [firstFailure, RefusedWith, hp, ih]

/-- No check of the model fails exactly when no condition holds. -/
theorem firstFailure_eq_none_iff {checks : List (Bool × ResultCode)} {refusals : List (Prop × ResultCode)}
    (h : ChecksAgree checks refusals) : firstFailure checks = none ↔ ∀ r ∈ refusals, ¬ r.1 := by
  induction h with
  | nil => simp [firstFailure]
  | @cons c r cs rs hc _ ih =>
    obtain ⟨b, d⟩ := c
    obtain ⟨p, e⟩ := r
    obtain ⟨hb, -⟩ := hc
    cases b
    · have hp : p := by simpa using hb
      simp [firstFailure, hp]
    · have hp : ¬ p := by simpa using hb
      simp [firstFailure, hp, ih]

end Sys2Proof.Machine
end

