-- ==== Sys2Proof/Laws/TargetPorts.lean ====
section
/-! SUPPORT. What a target port drives, and what one fabric clock cycle does at it, by its phase and the recovery captured
(R53 to R55, R65). -/

namespace Sys2Proof.Machine

/-- Outside BEAT a port has its pins at rest. -/
theorem TargetPort.drive_of_phase {p : TargetPort} (h : p.phase ≠ .beat) : p.drive = p.restPins := by
  unfold TargetPort.drive
  split <;> simp_all

/-- In BEAT a port drives the pins of the running beat. -/
theorem TargetPort.drive_of_beat {p : TargetPort} {r : Running} {c : Captured} (h : p.phase = .beat)
    (hr : p.running = some r) (hc : p.captured = some c) : p.drive = beatPins r.access c.width r.beat := by
  simp [TargetPort.drive, h, hr, hc]

/-- The lane enables at rest, lane by lane. -/
theorem TargetPort.restLanes_get (p : TargetPort) (l : Fin 4) :
    p.restLanes[l] = if p.lanesDropped || decide (p.laneWidth.bytes ≤ l.val) then .low else .unstated := by
  simp [TargetPort.restLanes]

/-- A device reset leaves every strobe and lane enable low (R65). -/
theorem resetTarget_drive (t : Target) (lines : TargetLines) :
    (resetTarget t lines).drive =
      { address := none, data := none, lanes := #v[.low, .low, .low, .low], readStrobe := false, writeStrobe := false } :=
  rfl

/-- A port that is not in RECOVERY is left. -/
theorem skipRecovery_of_phase {t : Target} {s : State} (h : (s.target t).phase ≠ .recovery) :
    skipRecovery t s = s := by
  simp [skipRecovery, TargetPort.recovered, h]

/-- A recovery of at least one cycle is left. -/
theorem skipRecovery_of_pos {t : Target} {s : State} {c : Captured} (hc : (s.target t).captured = some c)
    (h : c.recovery ≠ 0) : skipRecovery t s = s := by
  simp [skipRecovery, TargetPort.recovered, hc, h]

/-- A recovery of 0 cycles ends. -/
theorem skipRecovery_of_zero {t : Target} {s : State} {c : Captured} (hp : (s.target t).phase = .recovery)
    (hc : (s.target t).captured = some c) (h : c.recovery = 0) : skipRecovery t s = recoveryEnds t s := by
  simp [skipRecovery, TargetPort.recovered, hp, hc, h]

/-- The end of a recovery leaves no port in RECOVERY. -/
theorem recoveryEnds_phase (t : Target) (s : State) : ((recoveryEnds t s).target t).phase ≠ .recovery := by
  unfold recoveryEnds
  split <;> simp [TargetPort.beginBeat]

/-- An IDLE port does nothing in a cycle. -/
theorem targetCycle_of_idle {t : Target} {s : State} (h : (s.target t).phase = .idle) : targetCycle t s = s := by
  have hr : skipRecovery t s = s := skipRecovery_of_phase (by simp [h])
  simp [targetCycle, hr, phaseCycle, h]

/-- A port in BEAT takes a cycle of the beat, and ends a recovery of 0 cycles with it. -/
theorem targetCycle_of_beat {t : Target} {s : State} {c : Captured} (h : (s.target t).phase = .beat)
    (hc : (s.target t).captured = some c) : targetCycle t s = skipRecovery t (beatCycle t c s) := by
  have hr : skipRecovery t s = s := skipRecovery_of_phase (by simp [h])
  simp [targetCycle, hr, phaseCycle, h, hc]

/-- A port in a recovery of at least one cycle counts it, and ends it at the last. -/
theorem targetCycle_of_recovery {t : Target} {s : State} {c : Captured} (h : (s.target t).phase = .recovery)
    (hc : (s.target t).captured = some c) (hz : c.recovery ≠ 0) :
    targetCycle t s =
      if c.recovery ≤ (s.target t).count + 1 then recoveryEnds t s
      else s.setTarget t { s.target t with count := (s.target t).count + 1 } := by
  have hr : skipRecovery t s = s := skipRecovery_of_pos hc hz
  simp only [targetCycle, hr, phaseCycle, h, hc]
  split
  · exact skipRecovery_of_phase (recoveryEnds_phase t s)
  · exact skipRecovery_of_pos (c := c) (by simp) hz

end Sys2Proof.Machine
end

