-- ==== Sys2Proof/WellFormed.lean ====
section
/-! DEFINITION. When a command is well formed. The index types rule out a master, target, slot or tag that does not
exist; what is left is the write data of a request, which the lines carry in a fixed number of words (section 0.6,
R30). -/

namespace Sys2Proof

/-- The words on the write data lines for a size field of R166: one for a single access, 2, 4 or 8 for a burst; absent
where the field names no form (R30). -/
def wordsOfSize (size : BitVec 3) : Option Nat :=
  match size.toNat with
  | 0 => some 1
  | 1 => some 1
  | 2 => some 1
  | 3 => some 2
  | 4 => some 4
  | 5 => some 8
  | _ => none

/-- A read or a fetch carries no write data. -/
def Request.readCarriesNoData (r : Request) : Bool :=
  r.kind == 1#2 || r.wdata.isEmpty

/-- A write of a named form carries exactly the words of its form. -/
def Request.writeCarriesItsWords (r : Request) : Bool :=
  r.kind != 1#2 ||
    match wordsOfSize r.size with
    | some n => r.wdata.length == n
    | none => true

/-- A request as the lines can carry it. -/
def Request.wellFormed (r : Request) : Bool :=
  r.readCarriesNoData && r.writeCarriesItsWords

/-- A well-formed command. -/
def Instr.wellFormed : Instr → Bool
  | .requestAcceptance _ r => r.wellFormed
  | _ => true

end Sys2Proof
end

