-- ==== Sys2Proof/Tests/Slice0.lean ====
section
/-! SUPPORT. The model's own tests: ill-formed terms that WellFormed refuses, one or two small steps of each command with
the values that the manual's worked sequences and tables give, and a concrete state for the hypotheses of each statement
for the provers. -/

namespace Sys2Proof.Tests

-- One kernel evaluation at a time: run side by side they exhaust the memory for threads.
set_option Elab.async false

open Sys2Proof.Machine Sys2Proof.Safety

/-! ### Helpers -/

/-- The next state of a command; the state itself where there is none. -/
def after (c : Instr) (s : State) : State :=
  match exec c s with
  | .next u => u
  | .fault _ => s
  | .refused _ => s

/-- A command of a master in execution. -/
def doing (m : Master) (id : CmdId) (p0 p1 p2 p3 : Word) : Execution :=
  { master := m, command := BitVec.ofNat 8 id.code, params := { p0 := p0, p1 := p1, p2 := p2, p3 := p3 }, orphan := false }

/-- The state with a command in execution. -/
def busy (x : Execution) (s : State) : State := { s with engine := { s.engine with execution := some x } }

/-- The result of a command that a master asks for: its code and its three words. -/
def answer (m : Master) (id : CmdId) (p0 p1 p2 p3 : Word) (s : State) : Option ResultCode × Word × Word × Word :=
  let b := (after (completion id) (busy (doing m id p0 p1 p2 p3) s)).mailbox m
  (b.result, b.words.w0, b.words.w1, b.words.w2)

/-- The state once a command that a master asks for has completed. -/
def done (m : Master) (id : CmdId) (p0 p1 p2 p3 : Word) (s : State) : State :=
  after (completion id) (busy (doing m id p0 p1 p2 p3) s)

/-- A request. -/
def request (tag : Tag) (addr : Nat) (kind : BitVec 2) (size : BitVec 3) (data : List Word) : Request :=
  { tag := tag, addr := BitVec.ofNat 28 addr, kind := kind, size := size, wdata := data }

/-- An ACTIVE private window. -/
def privateWindow (gen : Gen) (holder : Master) (base length : Nat) (target : Target) (targetBase : Nat)
    (rights : BitVec 3) (lease remaining : Nat) : Window :=
  { freeWindow gen with
    state := .active, layer := .priv, holder := holder, fabricBase := base, length := length, target := target
    targetBase := targetBase, rights := rights, leasePeriod := some lease, leaseRemaining := remaining }

/-- An ACTIVE common window without a lease. -/
def commonWindow (gen : Gen) (members : BitVec 6) (base length : Nat) (target : Target) (targetBase : Nat)
    (rights : BitVec 3) : Window :=
  { freeWindow gen with
    state := .active, layer := .common, holder := 0, members := some members, fabricBase := base, length := length
    target := target, targetBase := targetBase, rights := rights }

/-- M2's READ of 4 bytes through slot 2 (section 5.15, step 4). -/
def readOfM2 : Resolved :=
  { master := 2, tag := 0, kind := .read, form := .single4, addr := 0x4010008#28, target := 1, targetAddr := 0x64008
    slot := 2, gen := 0#4, wdata := [] }

/-- M1's READ of 4 bytes through slot 1 (section 5.15, step 4). -/
def readOfM1 : Resolved :=
  { master := 1, tag := 0, kind := .read, form := .single4, addr := 0x4010008#28, target := 1, targetAddr := 0x10008
    slot := 1, gen := 0#4, wdata := [] }

/-- A WRITE of M1 that waits in its port for T1, through the DRAINING slot 5. -/
def writeOfM1 : Resolved :=
  { master := 1, tag := 1, kind := .write, form := .single4, addr := 0xFFEF000#28, target := 1, targetAddr := 0x4A000
    slot := 5, gen := 2#4, wdata := [1#8, 2#8, 3#8, 4#8] }

/-- A state in which every invariant is at work: the windows of section 5.15 beside an OFFERED, a LAPSED and a DRAINING
one and one at its last lease tick, accesses in every place, a command in execution, a HELD and an OFFLINE master, and a
FAILED target. -/
def sample : State :=
  let s := State.reset
  let s := s.setTarget 1
    { s.target 1 with
      state := .online, settings := { width := .w32, size := 256, wait := 8, recovery := 2, limit := 255 }
      queue := [readOfM1], running := some { access := readOfM2, beat := 0, bytes := [] }
      captured := some { width := .w32, wait := 8, recovery := 2, limit := 255 }
      phase := .beat, waitDone := true, count := 3, lanesDropped := false }
  let s := s.setTarget 2
    { s.target 2 with
      state := .failed, settings := { width := .w32, size := 4, wait := 4, recovery := 1, limit := 64 }
      captured := some { width := .w32, wait := 4, recovery := 1, limit := 64 }, phase := .recovery
      lanesDropped := false }
  let s := s.setWindow 1 { commonWindow 0#4 0b000110#6 16384 64 1 0 0b011#3 with inFlight := 1 }
  let s := s.setWindow 2 { privateWindow 0#4 2 16400 4 1 100 0b011#3 300 300 with inFlight := 1 }
  let s := s.setWindow 3
    { privateWindow 5#4 2 20480 8 1 64 0b001#3 200 17 with
      state := .offered, offer := some { recipient := 3, ticks := 1 } }
  let s := s.setWindow 4 { privateWindow 15#4 1 100 2 1 72 0b001#3 20 0 with state := .lapsed, graceRemaining := 1 }
  let s := s.setWindow 5
    { privateWindow 2#4 1 65519 1 1 74 0b111#3 20 0 with state := .draining, inFlight := 1, retireNotice := .drainDone }
  let s := s.setWindow 6 (commonWindow 0#4 0b000100#6 300 4 1 76 0b001#3)
  let s := s.setWindow 7 (privateWindow 0#4 4 200 1 2 3 0b111#3 5 1)
  let s := s.setPort 1
    { s.port 1 with
      tags := ((s.port 1).tags.set 0 (.inUse false)).set 1 (.inUse true), waiting := (s.port 1).waiting.set 1 [writeOfM1]
      reopenWait := false }
  let s := s.setPort 2
    { s.port 2 with
      tags := Vector.replicate 4 (.inUse false), unresolved := [request 1 0x4000100 1#2 2#3 [77#32]]
      aperture := [request 2 0xFFF0004 1#2 2#3 [9#32]]
      responses := [{ tag := 3, code := .ok, data := .words [5#32] }] }
  let s := s.setPort 4 { s.port 4 with lineAsserted := true }
  let s := s.setMaster 0 { s.master 0 with notices := [targetFailedNotice 2] }
  let s := s.setMaster 2
    { s.master 2 with notices := [faultNotice, slotNotice .leaseWarning 2 0#4, slotNotice .leaseWarning 3 5#4] }
  let s := s.setMaster 3
    { s.master 3 with
      state := .held, policy := .hold, notices := [faultNotice, slotNotice .offerReceived 3 5#4]
      faultRecord := some
        { first :=
            { kind := .noWindow, addr := 0x3010000#28, accessKind := some .read, form := some .single4, handle := none
              target := none }
          latest := .targetError, count := 255 } }
  let s := s.setMaster 5 { s.master 5 with state := .offline }
  let s := s.setMailbox 1
    { resetMailbox with
      state := .executing, command := some 8#8, captured := { p0 := 0x4012000#32, p1 := 1#32, p2 := 0#32, p3 := 0#32 } }
  let s := s.setMailbox 2 { resetMailbox with state := .submitted, command := some 9#8 }
  { s with
    engine := { execution := some (doing 1 .queryAddress 0x4012000#32 1#32 0#32 0#32), pointer := 1 }
    pending := [.queryAddress] }

/-- `sample` with an IDLE engine and no command waiting. -/
def idle : State := { sample with engine := { execution := none, pointer := 1 }, pending := [] }

/-! ### Ill-formed commands (section 0.6, R30) -/

theorem test_read_with_data_is_refused : (request 0 0 0#2 2#3 [1#32]).readCarriesNoData = false := by decide

theorem test_write_of_two_words_with_one_is_refused : (request 0 0 1#2 3#3 [1#32]).writeCarriesItsWords = false := by
  decide

theorem test_ill_formed_request_is_refused :
    (Instr.requestAcceptance 0 (request 0 0 1#2 2#3 [])).wellFormed = false ∧
    (Instr.requestAcceptance 0 (request 0 0 2#2 2#3 [7#32])).wellFormed = false := by decide

theorem test_burst_of_eight_words_is_well_formed :
    (Instr.requestAcceptance 0 (request 0 0 1#2 5#3 [0#32, 1#32, 2#32, 3#32, 4#32, 5#32, 6#32, 7#32])).wellFormed = true := by
  decide

/-- No row of the opcode table has bits. -/
theorem test_no_word_spells_a_command : decodeTableWord 8 1 = none ∧ sample.withFetchWord 8 1 = sample := ⟨rfl, rfl⟩

/-! ### The master ports and the resolver (sections 2.8, 5.15 and 8.5, R34) -/

/-- R27: page 65519 is the resolver's and page 65520 the command unit's. -/
theorem test_request_acceptance_lists :
    ((after (.requestAcceptance 1 (request 3 0xFFEFFFF 0#2 0#3 [])) idle).port 1).unresolved.length = 1 ∧
    ((after (.requestAcceptance 1 (request 3 0xFFF0000 1#2 2#3 [1#32])) idle).port 1).aperture.length = 1 := by
  decide +kernel

/-- Section 2.8, step 1: a request whose tag is in use is not accepted. -/
theorem test_request_with_a_tag_in_use_waits :
    after (.requestAcceptance 2 (request 0 0x1000100 0#2 4#3 [])) idle = idle := by decide +kernel

/-- Section 5.15, step 4: M2's WRITE at 0x4000100 hits slot 1 at target address 0x00100. -/
theorem test_resolution_hits_the_common_window :
    let u := after .resolution idle
    ((u.port 2).waitingFor 1).map (fun a => (a.slot, a.targetAddr)) = [(1, 0x00100)] ∧ (u.window 1).inFlight = 2 := by
  decide +kernel

/-- R34, the worked translation: 0x2011A4C through fabric base 8192 onto target base 100 is 0x75A4C. -/
theorem test_translation : (privateWindow 0#4 1 8192 64 2 100 7#3 1 1).translate 0x2011A4C#28 = 0x75A4C := by decide

/-- Section 5.15, step 4: M3 is no member of slot 1. -/
theorem test_not_member : decideAccess idle 3 16384 .read = .refused .notMember 1 := by decide +kernel

/-- Section 5.15, step 4: the same page is slot 2 for M2 and slot 1 for M1. -/
theorem test_overlay : decideAccess idle 2 16400 .read = .hit 2 ∧ decideAccess idle 1 16400 .read = .hit 1 := by
  decide +kernel

/-- R40: the response leaves and its tag becomes free. -/
theorem test_response_return :
    ((after (.responseReturn 2) idle).port 2).outstanding = 3 ∧ ((after (.responseReturn 2) idle).port 2).responses = [] := by
  decide +kernel

/-! ### The target ports (sections 3.3 and 3.8) -/

theorem test_admission :
    let u := after (.admission 1) idle
    (u.target 1).queue = [readOfM1, writeOfM1] ∧ (u.target 1).pointer = 1 ∧ (u.port 1).waitingFor 1 = [] := by decide +kernel

theorem test_access_start_waits_for_an_idle_port : after (.accessStart 1) idle = idle := by decide +kernel

/-- R55: after the recovery the port is IDLE, and its head starts. -/
theorem test_recovery_end_and_access_start :
    let s := idle.setTarget 1 { idle.target 1 with phase := .recovery, running := none }
    ((after (.recoveryEnd 1) s).target 1).phase = .idle ∧
    ((after (.accessStart 1) (after (.recoveryEnd 1) s)).target 1).running =
      some { access := readOfM1, beat := 0, bytes := [] } := by decide +kernel

/-- R53, R56: a read of 4 bytes on 32 bits, lanes 0 to 3, joins the response list of its master, and 2 bytes at an address
2 above a multiple of 4 stand on byte positions 2 and 3, from lanes 2 and 3. -/
theorem test_beat_end_answers :
    let a := { readOfM2 with form := .single2, addr := 0x401000A#28, targetAddr := 0x6400A }
    let s := idle.setTarget 1 { idle.target 1 with running := some { access := a, beat := 0, bytes := [] } }
    ((after (.beatEnd 1 false 0xAABBCCDD#32) idle).port 2).responses.getLast? =
      some { tag := 0, code := .ok, data := .bytes 0 [0xDD#8, 0xCC#8, 0xBB#8, 0xAA#8] } ∧
    ((after (.beatEnd 1 false 0xAABBCCDD#32) s).port 2).responses.getLast? =
      some { tag := 0, code := .ok, data := .bytes 2 [0xBB#8, 0xAA#8] } := by decide +kernel

/-- R55: with recovery 0 the cycle that ends the last beat leaves the port IDLE, and with recovery 1 the cycle after it. -/
theorem test_recovery_cycles :
    let s := fun recovery : Nat =>
      idle.setTarget 1
        { idle.target 1 with
          captured := some { width := .w32, wait := 8, recovery := recovery, limit := 255 }
          lines := { ready := true, error := false, data := 0#32 } }
    ((targetCycle 1 (s 0)).target 1).phase = .idle ∧ ((targetCycle 1 (s 1)).target 1).phase = .recovery ∧
    ((targetCycle 1 (targetCycle 1 (s 1))).target 1).phase = .idle := by decide +kernel

/-- R53: a write of 1 byte at an address 3 above a multiple of 4 on a 32-bit target: lane 3 alone. -/
theorem test_write_lanes :
    let a := { writeOfM1 with form := .single1, targetAddr := 0x4A003, wdata := [0x5A#8] }
    beatWrite a .w32 0 = 0x5A000000#32 ∧ beatLanes a .w32 0 = 0b1000#4 ∧ beatAddress a .w32 0 = 0x4A000 := by decide

/-- R57: the error input high. -/
theorem test_beat_end_with_error :
    ((after (.beatEnd 1 true 0#32) idle).master 2).faultRecord.map (fun f => (f.first.kind, f.first.handle)) =
      some (.targetError, some { slot := 2, gen := 0#4 }) := by decide +kernel

theorem test_wait_count_end_holds_the_strobe :
    let s := idle.setTarget 1 { idle.target 1 with waitDone := false }
    ((after (.waitCountEnd 1 false false 0#32) s).target 1).waitDone = true ∧
    ((after (.waitCountEnd 1 true false 0#32) s).target 1).phase = .recovery := by decide +kernel

/-- Section 3.8, step 1: the running access is silent, the queue and the waiting lists are answered, a DRAINING slot with
its last access becomes FREE at the next generation, and M0 gets TARGET_FAILED. -/
theorem test_response_timer_expiry :
    let s := idle.setPort 1 { idle.port 1 with tags := Vector.replicate 4 (.inUse false) }
    let u := after (.responseTimerExpiry 1) s
    (u.target 1).state = .failed ∧ (u.target 1).queue = [] ∧ (u.target 1).phase = .recovery ∧
    (u.port 1).responses.map (·.code.code) = [6, 6] ∧ (u.port 2).responses.map (·.code.code) = [0, 7] ∧
    (u.window 5).state = .free ∧ (u.window 5).gen = 3#4 ∧
    (u.master 1).notices = [faultNotice, retiredNotice 5 2#4 .drainDone] ∧
    (u.master 0).notices = [targetFailedNotice 1, targetFailedNotice 2] := by decide +kernel

/-! ### The command unit (chapter 4, R167) -/

theorem test_parameter_write :
    ((after (.parameterWrite 2) idle).mailbox 2).live.p0 = 9#32 ∧
    ((after (.parameterWrite 2) idle).mailbox 2).captured.p0 = 0#32 := by decide +kernel

/-- R167: the identification word of M3. -/
theorem test_identification_word : identificationWord 3 = 0x06322013#32 := by decide

/-- R71: submission from EMPTY, and MAILBOX_BUSY from SUBMITTED. -/
theorem test_command_submission :
    let p := fun m : Master => { (State.reset.port m) with aperture := [request 0 0xFFF0000 1#2 2#3 [9#32]] }
    ((after (.commandSubmission 3) (idle.setPort 3 (p 3))).mailbox 3).state = .submitted ∧
    ((after (.commandSubmission 2) (idle.setPort 2 (p 2))).port 2).responses.map (·.code.code) = [11] := by decide +kernel

/-- R67: a FETCH of the status word. -/
theorem test_aperture_access_taking :
    let p := fun k : BitVec 2 => { (State.reset.port 3) with aperture := [request 0 0xFFF0020 k 2#3 []] }
    ((after (.apertureAccessTaking 3) (idle.setPort 3 (p 2#2))).port 3).responses.map (·.code.code) = [10] ∧
    ((after (.apertureAccessTaking 3) (idle.setPort 3 (p 0#2))).port 3).responses.map (·.data) =
      [.words [0x00040004#32]] := by decide +kernel

/-- Section 4.7, step 4: the search starts after the master last granted. -/
theorem test_engine_grant :
    (after .engineGrant idle).engine.pointer = 2 ∧ ((after .engineGrant idle).mailbox 2).state = .executing := by
  decide +kernel

/-- R167: identity 30 names no command. -/
theorem test_bad_command :
    ((after .badCommand (busy { doing 2 .claim 0#32 0#32 0#32 0#32 with command := 30#8 } idle)).mailbox 2).result =
      some .badCommand := by decide +kernel

/-! ### The window commands (section 5.15) -/

/-- Steps 1 and 3: the lowest FREE slot, here 8. -/
theorem test_claim :
    answer 3 .claim 0x5000#32 8#32 0x001100C8#32 300#32 idle = (some .done, 0x008#32, 0#32, 0#32) := by decide +kernel

/-- Step 2: target pages 60 to 63 are mapped by slot 1. -/
theorem test_claim_overlap_target :
    answer 1 .claim 0x5000#32 8#32 0x0011003C#32 200#32 idle = (some .overlapTarget, 0#32, 0#32, 0#32) := by decide +kernel

/-- Step 1, on other pages. -/
theorem test_claim_common :
    let u := done 0 .claimCommon 0x6000#32 64#32 0x003100A0#32 0x00060000#32 idle
    u.window 8 = commonWindow 0#4 0b000110#6 0x6000 64 1 160 0b011#3 := by decide +kernel

/-- Step 6. -/
theorem test_extend : answer 2 .extend 2#32 4#32 0#32 0#32 idle = (some .done, 2#32, 8#32, 0#32) := by decide +kernel

/-- R90: the added pages run into slot 3's T1 pages. -/
theorem test_extend_overlap :
    answer 0 .extend 1#32 1#32 0#32 0#32 idle = (some .overlapTarget, 0#32, 0#32, 0#32) := by decide +kernel

/-- R93: with an access in flight. -/
theorem test_release :
    answer 2 .release 2#32 0#32 0#32 0#32 idle = (some .doneDraining, 2#32, 1#32, 0#32) ∧
    (((done 2 .release 2#32 0#32 0#32 0#32 idle).window 2).retireNotice = .drainDone) := by decide +kernel

/-- R94: generation 15 is followed by 0. -/
theorem test_revoke :
    ((done 0 .revoke 0xF04#32 0#32 0#32 0#32 idle).window 4) = freeWindow 0#4 ∧
    ((done 0 .revoke 0xF04#32 0#32 0#32 0#32 idle).master 1).notices = [slotNotice .windowRevoked 4 15#4] := by
  decide +kernel

/-- Step 7: the previous set is {M1, M2}. -/
theorem test_set_members :
    answer 0 .setMembers 1#32 4#32 0#32 0#32 idle = (some .done, 1#32, 6#32, 0#32) := by decide +kernel

/-- R169: slot 1 generation 0, ACTIVE, COMMON, M0, T1, READ and WRITE; base 0x4000, length 64; {M1, M2}. -/
theorem test_query :
    answer 2 .query 1#32 0#32 0#32 0#32 idle = (some .done, 0x00689001#32, 0x00404000#32, 0x00060000#32) := by decide +kernel

/-- Step 5: OK through slot 2 to T1 address 0x66000. -/
theorem test_query_address :
    answer 2 .queryAddress 0x4012000#32 1#32 0#32 0#32 idle = (some .done, 2#32, 0x10066000#32, 0#32) ∧
    answer 2 .queryAddress 0x4014000#32 1#32 0#32 0#32 idle = (some .done, 1#32, 0x10014000#32, 0#32) := by decide +kernel

/-- Step 9: M0 holds slots 0 and 1, ACTIVE and COMMON. -/
theorem test_find_held :
    answer 0 .findHeld 1#32 0#32 0#32 0#32 idle = (some .done, 1#32, 9#32, 0#32) ∧
    answer 5 .findHeld 0#32 0#32 0#32 0#32 idle = (some .empty, 0#32, 0#32, 0#32) := by decide +kernel

/-! ### Leases and handoff (sections 6.6 and 7.9) -/

/-- DONE with the remaining found, and DONE_LATE with the grace found. -/
theorem test_renew :
    answer 2 .renew 0x503#32 0#32 0#32 0#32 idle = (some .done, 0x503#32, 17#32, 0#32) ∧
    answer 1 .renew 0xF04#32 0#32 0#32 0#32 idle = (some .doneLate, 0xF04#32, 0#32, 1#32) := by decide +kernel

/-- Section 6.6: divider 9, margin 3, grace 2 over the reset values. -/
theorem test_set_lease_clock :
    answer 0 .setLeaseClock 9#32 0x0203#32 0#32 0#32 idle = (some .done, 99#32, 0x0810#32, 0#32) ∧
    (done 0 .setLeaseClock 9#32 0x0203#32 0#32 0#32 idle).timer = { divider := 9, margin := 3, grace := 2, cycles := 0 } := by
  decide +kernel

theorem test_offer :
    answer 2 .offer 2#32 0x2801#32 0#32 0#32 idle = (some .done, 2#32, 0x2801#32, 0#32) ∧
    ((done 2 .offer 2#32 0x2801#32 0#32 0#32 idle).master 1).notices = [slotNotice .offerReceived 2 0#4] := by decide +kernel

theorem test_withdraw :
    answer 2 .withdraw 0x503#32 0#32 0#32 0#32 idle = (some .done, 0x503#32, 0x0103#32, 0#32) ∧
    ((done 2 .withdraw 0x503#32 0#32 0#32 0#32 idle).master 3).notices = [faultNotice, slotNotice .offerWithdrawn 3 5#4] := by
  decide +kernel

/-- Step 6: the next generation, the holder before with its generation, and the full lease. -/
theorem test_accept :
    answer 3 .accept 0x503#32 0#32 0#32 0#32 idle = (some .done, 0x603#32, 0x502#32, 200#32) ∧
    ((done 3 .accept 0x503#32 0#32 0#32 0#32 idle).window 3).holder = 3 := by decide +kernel

/-- Step 7: the handle of the old generation is stale. -/
theorem test_accept_makes_the_old_handle_stale :
    answer 2 .withdraw 0x503#32 0#32 0#32 0#32 (done 3 .accept 0x503#32 0#32 0#32 0#32 idle) =
      (some .staleHandle, 0#32, 0#32, 0#32) := by decide +kernel

theorem test_decline :
    answer 3 .decline 0x503#32 0#32 0#32 0#32 idle = (some .done, 0x503#32, 2#32, 0#32) ∧
    ((done 3 .decline 0x503#32 0#32 0#32 0#32 idle).window 3).state = .active := by decide +kernel

/-! ### Faults, notices and masters (sections 8.5, 9.7, 10.6 and 11.5) -/

/-- Section 11.5: TARGET_SILENT through slot 4 generation 2 onto T2, latest TARGET_DOWN, count 3. -/
theorem test_read_fault :
    let f : FaultRecord :=
      { first :=
          { kind := .targetSilent, addr := 0x2000000#28, accessKind := some .read, form := some .single4
            handle := some { slot := 4, gen := 2#4 }, target := some 2 }
        latest := .targetDown, count := 3 }
    answer 1 .readFault 0#32 0#32 0#32 0#32 (idle.setMaster 1 { idle.master 1 with faultRecord := some f }) =
      (some .done, 0x02000000#32, 0x0087D204#32, 0x00000306#32) := by decide +kernel

/-- Section 8.5, step 5: NO_WINDOW, READ, single 4 bytes, without handle and target. -/
theorem test_clear_fault :
    answer 3 .clearFault 0#32 0#32 0#32 0#32 idle = (some .done, 0x03010000#32, 0x00810000#32, 0x0000FF08#32) ∧
    ((done 3 .clearFault 0#32 0#32 0#32 0#32 idle).master 3).notices = [slotNotice .offerReceived 3 5#4] := by decide +kernel

/-- Section 8.5, step 4. -/
theorem test_release_hold :
    answer 0 .releaseHold 3#32 0#32 0#32 0#32 idle = (some .done, 3#32, 0#32, 0#32) ∧
    answer 0 .releaseHold 2#32 0#32 0#32 0#32 idle = (some .wrongState, 0#32, 0#32, 0#32) := by decide +kernel

/-- FAULT is first in the default order, and two LEASE_WARNINGs are left. -/
theorem test_take_notice :
    answer 2 .takeNotice 0#32 0#32 0#32 0#32 idle = (some .done, 0x00010000#32, 2#32, 2#32) := by decide +kernel

/-- Section 9.7, step 3: OFFER_RECEIVED placed first is taken before FAULT. -/
theorem test_set_notice_order :
    let u := done 3 .setNoticeOrder 0x75432106#32 0#32 0#32 0#32 idle
    let v := done 3 .setNoticeOrder 0x87543216#32 0xBA9#32 0#32 0#32 idle
    (u.mailbox 3).result = some .badParam ∧ (v.mailbox 3).result = some .done ∧
    answer 3 .takeNotice 0#32 0#32 0#32 0#32 v = (some .done, 0x00060503#32, 1#32, 1#32) := by decide +kernel

/-- Section 9.7: {OFFER_RECEIVED, LEASE_LAPSED, WINDOW_REVOKED} leaves ATTN2 low. -/
theorem test_set_notice_enable :
    answer 2 .setNoticeEnable 0x2C#32 0#32 0#32 0#32 idle = (some .done, 0x7FF#32, 0#32, 0#32) ∧
    idle.attn 2 = true ∧ (done 2 .setNoticeEnable 0x2C#32 0#32 0#32 0#32 idle).attn 2 = false := by decide +kernel

/-- Section 10.6: quota 8, REPORT, KEEP; no HOLD for M0 (R156). -/
theorem test_set_master :
    answer 0 .setMaster 4#32 0x208#32 0#32 0#32 idle = (some .done, 8#32, 1#32, 0#32) ∧
    answer 0 .setMaster 0#32 0x120#32 0#32 0#32 idle = (some .badParam, 0#32, 0#32, 0#32) := by decide +kernel

/-- M2: two windows, four tags in use, SUBMITTED. -/
theorem test_query_master :
    answer 0 .queryMaster 2#32 0#32 0#32 0#32 idle = (some .done, 8#32, 0x1402#32, 0x00000C03#32) ∧
    answer 3 .queryMaster 2#32 0#32 0#32 0#32 idle = (some .notSupervisor, 0#32, 0#32, 0#32) := by decide +kernel

/-- R159: two windows retired, one of them draining; its own pending set holds their WINDOW_REVOKED. -/
theorem test_detach :
    answer 0 .detach 2#32 0#32 0#32 0#32 idle = (some .done, 2#32, 0x102#32, 0#32) ∧
    ((done 0 .detach 2#32 0#32 0#32 0#32 idle).master 2).notices =
      [slotNotice .windowRevoked 2 0#4, slotNotice .windowRevoked 3 5#4] := by decide +kernel

theorem test_attach :
    answer 0 .attach 5#32 0#32 0#32 0#32 idle = (some .done, 5#32, 0#32, 0#32) ∧
    answer 0 .attach 3#32 0#32 0#32 0#32 idle = (some .wrongState, 0#32, 0#32, 0#32) := by decide +kernel

/-! ### The target commands (sections 3.8 and 11.3) -/

/-- The worked words of section 11.3 at T3, and TARGET_BUSY at the ONLINE T1. -/
theorem test_set_target :
    ((done 0 .setTarget 3#32 0x00200100#32 0x00FF0208#32 0#32 idle).target 3).settings =
      { width := .w32, size := 256, wait := 8, recovery := 2, limit := 255 } ∧
    answer 0 .setTarget 1#32 0x00200100#32 0x00FF0208#32 0#32 idle = (some .targetBusy, 0#32, 0#32, 0#32) := by decide +kernel

/-- Section 3.8, step 5. -/
theorem test_target_online :
    ((done 0 .targetOnline 2#32 0#32 0#32 0#32 idle).target 2).state = .online ∧
    ((done 0 .targetOnline 2#32 0#32 0#32 0#32 idle).master 0).notices = [] := by decide +kernel

/-- R63: the access in progress runs on. -/
theorem test_target_offline :
    let u := done 0 .targetOffline 1#32 0#32 0#32 0#32 idle
    (u.target 1).queue = [] ∧ (u.target 1).running.isSome = true ∧ (u.port 1).responses.map (·.code.code) = [6] ∧
    (u.port 1).outstanding = 1 := by decide +kernel

/-- Section 3.8, step 3: FAILED, width 32, wait 4, recovery 1, limit 64, queue 0, nothing in progress. -/
theorem test_query_target :
    answer 4 .queryTarget 2#32 0#32 0#32 0#32 idle = (some .done, 0x02200004#32, 0x00400104#32, 0#32) ∧
    answer 4 .queryTarget 1#32 0#32 0#32 0#32 idle = (some .done, 0x01200100#32, 0x00FF0208#32, 0x101#32) := by decide +kernel

/-! ### Ticks (section 6.6) -/

/-- Slot 3 comes to the margin of 16 and its offer ends; slots 4 and 7 come to the end of grace and of the lease. -/
theorem test_lease_tick :
    let u := after .leaseTick idle
    (u.window 3).leaseRemaining = 16 ∧ (u.window 3).warned = true ∧ (u.window 3).state = .active ∧
    u.window 4 = freeWindow 0#4 ∧ (u.window 7).state = .lapsed ∧ (u.window 7).graceRemaining = 8 := by decide +kernel

theorem test_lease_expiry :
    ((after (.leaseExpiry 7) idle).master 4).notices = [slotNotice .leaseLapsed 7 0#4] ∧
    after (.leaseExpiry 2) idle = idle := by decide +kernel

theorem test_grace_expiry :
    ((after (.graceExpiry 4) idle).master 1).notices = [retiredNotice 4 15#4 .graceExpired] := by decide +kernel

theorem test_offer_expiry :
    ((after (.offerExpiry 3) idle).master 3).notices = [faultNotice, slotNotice .offerWithdrawn 3 5#4] ∧
    slotNotice .offerExpired 3 5#4 ∈ ((after (.offerExpiry 3) idle).master 2).notices := by decide +kernel

/-- R105: at divider 0 the 256th cycle is the tick. -/
theorem test_prescaler :
    let s := { idle with timer := { idle.timer with divider := 0, cycles := 255 } }
    (timerCycle s).timer.cycles = 0 ∧ ((timerCycle s).window 7).state = .lapsed := by decide +kernel

/-! ### Resets (section 10.6) -/

/-- Disposition RELEASE for M2, whose port keeps what the resolver has taken. -/
theorem test_master_reset :
    let u := after (.masterReset 2) idle
    (u.port 2).outstanding = 1 ∧ (u.port 2).dropped 0 = true ∧ u.mailbox 2 = resetMailbox ∧
    (u.window 2).state = .draining ∧ u.window 3 = freeWindow 6#4 ∧
    (u.master 3).notices = [faultNotice, slotNotice .offerWithdrawn 3 5#4] := by decide +kernel

/-- Disposition KEEP: only the offer ends. -/
theorem test_master_reset_keeping :
    let u := after (.masterReset 2) (idle.setMaster 2 { idle.master 2 with disposition := .keep })
    (u.window 3).state = .active ∧ (u.window 2) = idle.window 2 := by decide +kernel

theorem test_master_reset_deassertion :
    ((after (.masterResetDeassertion 4) idle).port 4) = State.reset.port 4 ∧
    ((after (.masterResetDeassertion 2) (after (.masterReset 2) idle)).port 2).reopenWait = true := by decide +kernel

/-- A device reset cuts off a read beat of T1: its strobe and its four lane enables drop (R65). -/
theorem test_device_reset :
    after .deviceReset idle =
      { (State.reset.setPort 4 (resetPort true)) with drst := true } ∧
    (let pins := fun s : State => (s.target 1).drive
     ((pins idle).readStrobe, (pins idle).lanes) = (true, #v[.high, .high, .high, .high]) ∧
     ((pins (after .deviceReset idle)).readStrobe, (pins (after .deviceReset idle)).lanes) =
       (false, #v[.low, .low, .low, .low])) := by decide +kernel

theorem test_device_reset_deassertion : (after .deviceResetDeassertion (after .deviceReset idle)).drst = false := by
  decide +kernel

/-! ### Hypotheses that a concrete state meets

For each statement of Certificates/Slice0/Obligations.lean that has hypotheses: `sample`, or a state that differs from it in
the records named, meets all of them together, clause by clause and at the bounds of each range. -/

theorem executing (x : Execution) (s : State) (id : CmdId) (h : CmdId.ofCode x.command.toNat = some id) :
    Executing (busy x s) x id := ⟨rfl, h⟩

/-! #### The step, the ports and the resolver -/

theorem witness_PrescalerTicksAfterDividedCycles :
    State.reset.pending = [] ∧ State.reset.drst = false ∧ (after .deviceReset idle).drst = true ∧
    State.reset.timer.cycles = 0 := ⟨rfl, rfl, rfl, rfl⟩

theorem witness_ResetContentsOfEveryBlock : (31 : Slot) ≠ 0 := by decide

theorem witness_RequestAcceptedUnderThreeConditions :
    (idle.drst = false ∧ (idle.port 3).lineAsserted = false ∧ (idle.port 3).reopenWait = false ∧
      (idle.port 3).tags[(3 : Tag)] = .free ∧
      (request 3 0xFFEFFFF 0#2 0#3 []).addr.toNat / 4096 = 65519 ∧
      (request 3 0xFFF0000 0#2 2#3 []).addr.toNat / 4096 = 65520) ∧
    (after .deviceReset idle).drst = true ∧ (idle.port 4).lineAsserted = true ∧
    ((after (.masterResetDeassertion 2) (after (.masterReset 2) idle)).port 2).reopenWait = true ∧
    (idle.port 2).tags[(0 : Tag)] ≠ .free := by decide +kernel

theorem witness_ResponseReturnFreesTheTag :
    (idle.port 2).responses = [{ tag := 3, code := .ok, data := .words [5#32] }] ∧
    (idle.port 2).tags[(3 : Tag)] ≠ .free := by decide +kernel

theorem first_after_5_is_2 : FirstAfter idle.resolverPointer (fun n => (idle.port n).unresolved ≠ []) 2 := by
  unfold FirstAfter; decide +kernel

theorem witness_ResolutionOfAHitCountsAndTranslates :
    FirstAfter idle.resolverPointer (fun n => (idle.port n).unresolved ≠ []) 2 ∧
    (idle.port 2).unresolved = [request 1 0x4000100 1#2 2#3 [77#32]] ∧ (idle.master 2).state = .online ∧
    AccessKind.ofCode (1#2).toNat = some .write ∧ Form.ofCode (2#3).toNat = some .single4 ∧
    (0x4000100#28).toNat % Form.single4.size = 0 ∧ decideAccess idle 2 ((0x4000100#28).toNat / 4096) .write = .hit 1 :=
  ⟨first_after_5_is_2, by decide +kernel⟩

/-- M2, in a master state, with one request untaken. -/
def asking (r : Request) (state : MasterState) : State :=
  (idle.setPort 2 { idle.port 2 with unresolved := [r] }).setMaster 2 { idle.master 2 with state := state }

theorem asking_first (r : Request) (state : MasterState) :
    FirstAfter (asking r state).resolverPointer (fun n => ((asking r state).port n).unresolved ≠ []) 2 := by
  refine ⟨by simp [asking, State.port, State.setPort, State.setMaster], 2, show (2 : Master) = 5 + 1 + 2 by decide, fun j hj => ?_⟩
  fin_cases j
  · exact fun h => h rfl
  · exact fun h => h rfl
  all_goals exact absurd hj (by decide)

theorem witness_ResolutionWithoutAHitAnswersAtOnce :
    ((sample.master 3).faultRecord.map FaultRecord.count = some 255 ∧ (255 : Nat) ≤ 255) ∧
    (∀ state : MasterState, ∀ r : Request,
      FirstAfter (asking r state).resolverPointer (fun n => ((asking r state).port n).unresolved ≠ []) 2 ∧
      ((asking r state).port 2).unresolved = [r] ∧ ((asking r state).master 2).state = state) ∧
    (idle.port 2).tags[(1 : Tag)] ≠ .inUse true ∧
    AccessKind.ofCode (3#2).toNat = none ∧ Form.ofCode (6#3).toNat = none ∧ 0x1000022 % Form.single4.size ≠ 0 ∧
    decideAccess idle 2 0 .write = .refused .rights 0 ∧ decideAccess idle 2 0xFFEF .read = .noWindow ∧
    decideAccess idle 3 16384 .read = .refused .notMember 1 ∧ decideAccess idle 1 101 .read = .refused .lapsed 4 ∧
    decideAccess idle 1 65519 .fetch = .refused .retiring 5 ∧ decideAccess idle 4 200 .read = .refused .targetDown 7 :=
  ⟨by decide +kernel, fun state r => ⟨asking_first r state, rfl, rfl⟩, by decide +kernel⟩

theorem witness_lawfulWindows : LawfulWindows sample := by
  unfold LawfulWindows Apart
  exact ⟨by decide +kernel, by decide +kernel⟩

/-- The last page of M2's window, the last page of a common one for a member and for another, and a page of none. -/
theorem witness_DecidingWindowAndOrderOfChecks :
    let covers := fun (i : Slot) (page : Nat) =>
      (sample.window i).state ≠ .free ∧ (sample.window i).fabricBase ≤ page ∧
        page < (sample.window i).fabricBase + (sample.window i).length
    let own := fun (m : Master) (page : Nat) (i : Slot) =>
      covers i page ∧ (sample.window i).layer = .priv ∧ (sample.window i).holder = m
    let shared := fun (page : Nat) (i : Slot) => covers i page ∧ (sample.window i).layer = .common
    LawfulWindows sample ∧ own 2 16403 2 ∧
    ((∀ i, ¬ own 1 16447 i) ∧ shared 16447 1 ∧ ∃ set ∈ (sample.window 1).members, set.getLsbD 1 = true) ∧
    ((∀ i, ¬ own 3 16447 i) ∧ ¬ ∃ set ∈ (sample.window 1).members, set.getLsbD 3 = true) ∧
    (∀ i, ¬ own 0 65519 i) ∧ ∀ i, ¬ shared 65519 i :=
  ⟨witness_lawfulWindows, by decide +kernel⟩

/-- For M1, slot 7 of M4 may be another window. -/
theorem witness_OtherMastersPrivateWindowsDoNotDecide :
    let s' := sample.setWindow 7 (privateWindow 0#4 4 16400 1 1 80 0b111#3 5 1)
    let seen := fun (u : State) (i : Slot) =>
      (u.window i).state ≠ .free ∧ ((u.window i).layer = .common ∨ (u.window i).holder = 1)
    sample ≠ s' ∧ (∀ i : Slot, seen sample i ∨ seen s' i → sample.window i = s'.window i) ∧
    ∀ t : Target, (sample.target t).state = (s'.target t).state := by decide +kernel

/-! #### The target ports -/

theorem first_after_5_is_1 : FirstAfter (idle.target 1).pointer (fun n => (idle.port n).waitingFor 1 ≠ []) 1 := by
  unfold FirstAfter; decide +kernel

theorem witness_AdmissionStartAndRecovery :
    ((idle.target 1).state = .online ∧ (idle.target 1).queue.length < 8 ∧
      FirstAfter (idle.target 1).pointer (fun n => (idle.port n).waitingFor 1 ≠ []) 1 ∧
      (idle.port 1).waitingFor 1 = [writeOfM1]) ∧
    (let s := idle.setTarget 1 { idle.target 1 with phase := .idle, running := none, captured := none }
     (s.target 1).phase = .idle ∧ (s.target 1).state = .online ∧ (s.target 1).queue = [readOfM1]) ∧
    (idle.target 2).phase = .recovery :=
  ⟨⟨by decide +kernel, by decide +kernel, first_after_5_is_1, by decide +kernel⟩, by decide +kernel, by decide +kernel⟩

/-- The only beat of the access, in its wait count and after it; at 8 bits, the third of four beats, then the last. -/
theorem witness_BeatEndsByReadyAndError :
    let s := idle.setTarget 1 { idle.target 1 with waitDone := false }
    ((idle.target 1).phase = .beat ∧ (idle.target 1).running = some { access := readOfM2, beat := 0, bytes := [] } ∧
      (idle.target 1).captured = some { width := .w32, wait := 8, recovery := 2, limit := 255 } ∧
      (idle.target 1).waitDone = true) ∧
    ((s.target 1).phase = .beat ∧ (s.target 1).running = some { access := readOfM2, beat := 0, bytes := [] } ∧
      (s.target 1).captured = some { width := .w32, wait := 8, recovery := 2, limit := 255 } ∧
      (s.target 1).waitDone = false) ∧
    ¬ 0 + 1 < beatCount readOfM2.form .w32 ∧ 2 + 1 < beatCount readOfM2.form .w8 ∧
    ¬ 3 + 1 < beatCount readOfM2.form .w8 ∧ 1 < (List.replicate 8 (0#8 : Byte)).length / 4 ∧ 3 < 4 := by decide +kernel

theorem witness_EndOfAccessCountsOutAndAnswers :
    ((sample.window 5).state = .draining ∧ (sample.window 5).inFlight ≤ 1 ∧ (sample.window 5).retireNotice ≠ .none ∧
      (sample.master (sample.window 5).holder).state ≠ .offline ∧ (sample.port 1).tags[(1 : Tag)] = .inUse true) ∧
    (sample.port 2).tags[(0 : Tag)] ≠ .inUse true ∧
    (∃ t, RespCode.ok = .ok ∧ (none : Option FaultReport) = none ∧ t = endOk writeOfM1 .zero sample) ∧
    ∃ k ∈ [FaultKind.targetError, .targetSilent, .targetDown], ∃ t, t = endFaulted k readOfM2 sample :=
  ⟨by decide +kernel, by decide +kernel, ⟨_, rfl, rfl, rfl⟩, .targetError, by decide, _, rfl⟩

theorem witness_tagsAccounted : TagsAccounted sample := by unfold TagsAccounted; decide +kernel

theorem witness_noticesUnique : NoticesUnique sample := by unfold NoticesUnique; decide +kernel

theorem witness_offerLaw : OfferLaw sample := by unfold OfferLaw; decide +kernel

theorem witness_countedAccesses : CountedAccesses sample := by unfold CountedAccesses; decide +kernel

theorem witness_TargetLeavingServiceAnswersItsAccesses :
    TagsAccounted sample ∧ CountedAccesses sample ∧ NoticesUnique sample ∧ downAnswers sample 1 1 ≠ [] ∧
    downCount sample 1 5 = 1 :=
  ⟨witness_tagsAccounted, witness_countedAccesses, witness_noticesUnique, by decide +kernel, by decide +kernel⟩

theorem witness_ResponseLimitFailsTheTarget :
    TagsAccounted sample ∧ CountedAccesses sample ∧ NoticesUnique sample ∧ (sample.target 1).phase = .beat ∧
    (sample.target 1).waitDone = true ∧ (sample.target 1).running = some { access := readOfM2, beat := 0, bytes := [] } :=
  ⟨witness_tagsAccounted, witness_countedAccesses, witness_noticesUnique, by decide +kernel, by decide +kernel,
    by decide +kernel⟩

/-- A port in BEAT, one in RECOVERY at 16 bits and one as a device reset leaves it at 8; the last byte of a 32-bit beat, and
a lane that a write of 2 bytes leaves out. -/
theorem witness_BeatsDriveTheLanesOfTheirBytes :
    (3 : Nat) < 4 ∧ (∀ k < 2, ({ writeOfM1 with form := .single2 }.targetAddr + k) % 4 ≠ 3) ∧
    ((sample.target 1).phase = .beat ∧ (sample.target 1).running = some { access := readOfM2, beat := 0, bytes := [] } ∧
      (sample.target 1).captured = some { width := .w32, wait := 8, recovery := 2, limit := 255 }) ∧
    (let p := { sample.target 2 with captured := some { width := .w16, wait := 4, recovery := 1, limit := 64 } }
     p.phase ≠ .beat ∧ ((p.captured.map Captured.width).getD p.settings.width).bytes ≤ (2 : Fin 4).val) ∧
    (let p := State.reset.target 0
     p.phase ≠ .beat ∧ p.lanesDropped = true ∧
     ((p.captured.map Captured.width).getD p.settings.width).bytes ≤ (1 : Fin 4).val) := by decide +kernel

/-- In a beat with ready high and low, and in a recovery of 15, 1 and 0 cycles with a beat to come and without. -/
theorem witness_BeatTimingByFabricCycles :
    (let s := fun (run : Option Running) (n : Nat) =>
      idle.setTarget 1
        { idle.target 1 with
          phase := .recovery, count := 0, running := run
          captured := some { width := .w32, wait := 8, recovery := n, limit := 255 } }
     ∀ run ∈ [none, some { access := readOfM2, beat := 1, bytes := [] }], ∀ n ∈ [15, 1, 0],
      ((s run n).target 1).phase = .recovery ∧ ((s run n).target 1).count = 0 ∧ ((s run n).target 1).running = run ∧
      ((s run n).target 1).captured = some { width := .w32, wait := 8, recovery := n, limit := 255 }) ∧
    let s := fun wait ready : Bool =>
      idle.setTarget 1
        { idle.target 1 with count := 0, waitDone := wait, lines := { ready := ready, error := false, data := 0#32 } }
    ∀ wait ready : Bool,
      ((s wait ready).target 1).phase = .beat ∧
      ((s wait ready).target 1).running = some { access := readOfM2, beat := 0, bytes := [] } ∧
      ((s wait ready).target 1).captured = some { width := .w32, wait := 8, recovery := 2, limit := 255 } ∧
      ((s wait ready).target 1).count = 0 ∧ ((s wait ready).target 1).waitDone = wait ∧
      ((s wait ready).target 1).lines.ready = ready ∧ 1 ≤ 8 ∧ 2 ≤ 255 := by decide +kernel

/-! #### The command unit -/

/-- M3 with one access on its aperture list. -/
def atAperture (r : Request) : State := idle.setPort 3 { idle.port 3 with aperture := [r] }

theorem witness_ParameterWritesAndApertureReads :
    (∀ r : Request, ((atAperture r).port 3).aperture = [r]) ∧ (idle.port 3).tags[(0 : Tag)] ≠ .inUse true ∧
    (∀ n : Fin 4, (request 0 (0xFFF0004 + 4 * n.val) 1#2 2#3 [9#32]).addr.toNat = 0xFFF0004 + 4 * n.val) ∧
    (∀ n : Fin 3, (request 0 (0xFFF0024 + 4 * n.val) 0#2 2#3 []).addr.toNat = 0xFFF0024 + 4 * n.val) ∧
    (request 0 0xFFF0020 0#2 2#3 []).addr.toNat = 0xFFF0020 ∧ (request 0 0xFFF0040 0#2 2#3 []).addr.toNat = 0xFFF0040 :=
  ⟨fun _ => rfl, by decide +kernel⟩

/-- Each mailbox state; ONLINE and OFFLINE, with a command that is served and one that is not. -/
theorem witness_SubmissionCapturesOrIsBusy :
    ((atAperture (request 0 0xFFF0000 1#2 2#3 [16#32])).port 3).aperture = [request 0 0xFFF0000 1#2 2#3 [16#32]] ∧
    ((atAperture (request 0 0xFFF0000 1#2 2#3 [16#32])).port 3).tags[(0 : Tag)] ≠ .inUse true ∧
    (request 0 0xFFF0000 1#2 2#3 [16#32]).addr.toNat = 0xFFF0000 ∧
    (idle.mailbox 3).state = .empty ∧ (idle.mailbox 2).state = .submitted ∧ (sample.mailbox 1).state = .executing ∧
    ((done 3 .takeNotice 0#32 0#32 0#32 0#32 idle).mailbox 3).state = .done ∧ (idle.master 5).state = .offline ∧
    (16#32).toNat % 256 = 16 ∧ (1#32).toNat % 256 ≠ 16 := by decide +kernel

/-- A kind that is none, a FETCH, a form, an alignment, an offset past the identification word, and both directions. -/
theorem witness_MalformedApertureAccessIsAFormatFault :
    (∀ r : Request, ((atAperture r).port 3).aperture = [r]) ∧ (idle.port 3).tags[(0 : Tag)] ≠ .inUse true ∧
    ∀ r ∈ [request 0 0xFFF0020 3#2 2#3 [], request 0 0xFFF0020 2#2 2#3 [], request 0 0xFFF0020 0#2 1#3 [],
        request 0 0xFFF0022 0#2 2#3 [], request 0 0xFFF0044 0#2 2#3 [], request 0 0xFFFFFFC 0#2 2#3 [],
        request 0 0xFFF0000 0#2 2#3 [], request 0 0xFFF0040 1#2 2#3 [1#32]],
      0xFFF0000 ≤ r.addr.toNat ∧
      ((r.kind ≠ 0#2 ∧ r.kind ≠ 1#2) ∨ r.size ≠ 2#3 ∨ r.addr.toNat % 4 ≠ 0 ∨
        r.addr.toNat - 0xFFF0000 ∉ [0x00, 0x04, 0x08, 0x0C, 0x10, 0x20, 0x24, 0x28, 0x2C, 0x40] ∨
        (r.kind = 0#2 ∧ r.addr.toNat = 0xFFF0000) ∨
        (r.kind = 1#2 ∧ r.addr.toNat - 0xFFF0000 ∈ [0x20, 0x24, 0x28, 0x2C, 0x40])) :=
  ⟨fun _ => rfl, by decide +kernel⟩

theorem witness_GrantTakesTheFirstSubmittedMailbox :
    (idle.engine.execution = none ∧
      FirstAfter idle.engine.pointer (fun n => (idle.mailbox n).state = .submitted) 2) ∧
    sample.engine.execution.isSome = true := by
  unfold FirstAfter; decide +kernel

theorem witness_RefusedCommandChangesNothingElse :
    (∀ id : CmdId, Executing (busy (doing 3 id 0#32 0#32 0#32 0#32) idle) (doing 3 id 0#32 0#32 0#32 0#32) id) ∧
    CmdId.ofCode (0#8).toNat = none ∧ CmdId.ofCode (30#8).toNat = none ∧ CmdId.ofCode (255#8).toNat = none ∧
    ¬ succeeded .wrongState :=
  ⟨fun id => executing _ _ _ (by cases id <;> rfl), by decide, by decide, by decide, by simp [succeeded]⟩

/-- A supervisor-only command of M3, a RELEASE of a handle of an old generation, and a RELEASE with nothing against it. -/
theorem witness_CommandsAreRefusedByTheFirstFailingCheck :
    (let x := doing 3 .revoke 0#32 0#32 0#32 0#32
     .revoke ∈ supervisorOnly ∧ x.master ≠ 0 ∧ Executing (busy x idle) x .revoke ∧
     RefusedWith (refusals .revoke x.master x.params (busy x idle)) .notSupervisor) ∧
    (let x := doing 2 .release 0x102#32 0#32 0#32 0#32
     Executing (busy x idle) x .release ∧
     RefusedWith (refusals .release x.master x.params (busy x idle)) .staleHandle) ∧
    (let x := doing 2 .release 2#32 0#32 0#32 0#32
     Executing (busy x idle) x .release ∧
     ∀ check ∈ refusals .release x.master x.params (busy x idle), ¬ check.1) := by
  have handle : ∀ w : Word, w = 0x102#32 ∨ w = 2#32 → IsHandle w := by
    rintro w (rfl | rfl)
    · exact ⟨2, by decide, 1, by decide, rfl⟩
    · exact ⟨2, by decide, 0, by decide, rfl⟩
  refine ⟨⟨by decide, by decide, executing _ _ _ rfl, .inl ⟨by decide, rfl⟩⟩,
    ⟨executing _ _ _ rfl, .inr ⟨fun h => h (handle _ (.inl rfl)), .inl ⟨.inr (by decide +kernel), rfl⟩⟩⟩,
    executing _ _ _ rfl, fun check h => ?_⟩
  simp only [refusals, List.mem_cons, List.not_mem_nil, or_false] at h
  obtain rfl | rfl | rfl | rfl := h
  · exact fun h => h (handle _ (.inr rfl))
  · rintro (h | h)
    · exact absurd h (by decide +kernel)
    · exact h (by decide +kernel)
  · exact fun h => h (by decide +kernel)
  · exact fun h => h.1 (by decide +kernel)

/-- The bounds of each range: pages 65535, ticks 1 and 255, quota 32, and both ends of the target settings. -/
theorem witness_ParameterWordsHoldTheirOperands :
    ((65535 : Nat) < 65536 ∧ 1 ≤ (65535 : Nat)) ∧ (1 ≤ (255 : Nat) ∧ (255 : Nat) < 256) ∧ (32 : Nat) ≤ 32 ∧
    SettingsInRange { width := .w8, size := 65536, wait := 31, recovery := 15, limit := 1023 } ∧
    SettingsInRange { width := .w32, size := 0, wait := 1, recovery := 0, limit := 8 } ∧
    defaultOrder.reverse.Perm defaultOrder := by
  unfold SettingsInRange; decide

theorem witness_ReadWordsHoldTheirFields :
    ∀ n ≤ 293, (List.replicate n faultNotice).length ≤ 293 := by
  intro n h
  rwa [List.length_replicate]

/-! #### The window commands -/

/-- The last windowable page, the last target page and the last of a quota. -/
theorem witness_ClaimTakesTheLowestFreeSlot :
    let x := doing 3 .claim 0xFFEE#32 2#32 0x003100FE#32 1#32
    let s := busy x (idle.setMaster 3 { idle.master 3 with quota := 1 })
    Executing s x .claim ∧ claimInRange x.params = true ∧ claimLease x.params ≠ 0 ∧ claimRights x.params ≠ 0#3 ∧
    claimBase x.params + claimLength x.params = 65520 ∧ s.heldPrivate x.master + 1 = (s.master x.master).quota ∧
    (∀ j, (s.window j).live = true → (s.window j).layer = .priv → (s.window j).holder = x.master →
      Apart (claimBase x.params) (claimLength x.params) (s.window j).fabricBase (s.window j).length) ∧
    claimTargetBase x.params + claimLength x.params = (s.target (claimTarget x.params)).settings.size ∧
    (∀ j, (s.window j).live = true → (s.window j).target = claimTarget x.params →
      Apart (claimTargetBase x.params) (claimLength x.params) (s.window j).targetBase (s.window j).length) ∧
    (s.window 8).state = .free ∧ ∀ j, j < 8 → (s.window j).state ≠ .free := by
  refine ⟨executing _ _ _ rfl, ?_⟩
  unfold Apart
  decide +kernel

theorem witness_ClaimCommonMakesACommonWindow :
    let x := doing 0 .claimCommon 0x3FF0#32 16#32 0x003100F0#32 0x00060000#32
    let s := busy x idle
    Executing s x .claimCommon ∧ x.master = 0 ∧ claimCommonInRange x.params = true ∧ claimRights x.params ≠ 0#3 ∧
    claimBase x.params + claimLength x.params ≤ 65520 ∧
    (∀ j, (s.window j).live = true → (s.window j).layer = .common →
      Apart (claimBase x.params) (claimLength x.params) (s.window j).fabricBase (s.window j).length) ∧
    claimTargetBase x.params + claimLength x.params = (s.target (claimTarget x.params)).settings.size ∧
    (∀ j, (s.window j).live = true → (s.window j).target = claimTarget x.params →
      Apart (claimTargetBase x.params) (claimLength x.params) (s.window j).targetBase (s.window j).length) ∧
    (s.window 8).state = .free ∧ ∀ j, j < 8 → (s.window j).state ≠ .free := by
  refine ⟨executing _ _ _ rfl, ?_⟩
  unfold Apart
  decide +kernel

/-- The hypotheses of EXTEND on a slot. -/
def extensible (i : Slot) (x : Execution) (s : State) : Prop :=
  let w := s.window i
  (extendInRange x.params = true ∧ handleOf x.params.p0 = { slot := i, gen := w.gen } ∧
    w.state = .active ∧ x.master = (if w.layer = .priv then w.holder else 0) ∧
    w.fabricBase + w.length + extendPages x.params ≤ 65520 ∧
    w.targetBase + w.length + extendPages x.params ≤ (s.target w.target).settings.size) ∧
  (∀ j, j ≠ i → (s.window j).live = true → (s.window j).layer = w.layer →
    (w.layer = .priv → (s.window j).holder = w.holder) →
    Apart (w.fabricBase + w.length) (extendPages x.params) (s.window j).fabricBase (s.window j).length) ∧
  (∀ j, j ≠ i → (s.window j).live = true → (s.window j).target = w.target →
    Apart (w.targetBase + w.length) (extendPages x.params) (s.window j).targetBase (s.window j).length)

/-- A private window by its holder, up to the last target page, and a common one by M0. -/
theorem witness_ExtendGrowsOnlyTheLength :
    (let x := doing 2 .extend 2#32 152#32 0#32 0#32
     Executing (busy x idle) x .extend ∧ extensible 2 x (busy x idle)) ∧
    (let x := doing 0 .extend 6#32 20#32 0#32 0#32
     Executing (busy x idle) x .extend ∧ extensible 6 x (busy x idle)) := by
  unfold extensible Apart
  exact ⟨⟨executing _ _ _ rfl, by decide +kernel, by decide +kernel, by decide +kernel⟩,
    executing _ _ _ rfl, by decide +kernel, by decide +kernel, by decide +kernel⟩

theorem witness_ReleaseAndRevokeRetireTheWindow :
    ∀ i ∈ [(2 : Slot), 3, 4],
    let w := idle.window i
    handleInRange (handleWord (idle.handle i)) = true ∧
    handleOf (handleWord (idle.handle i)) = { slot := i, gen := w.gen } ∧
    (w.state = .active ∨ w.state = .offered ∨ w.state = .lapsed) ∧
    (let x := doing w.holder .release (handleWord (idle.handle i)) 0#32 0#32 0#32
     (busy x idle).engine.execution = some x ∧ CmdId.ofCode x.command.toNat = some .release ∧ x.master = w.holder) ∧
    (let x := doing 0 .revoke (handleWord (idle.handle i)) 0#32 0#32 0#32
     (busy x idle).engine.execution = some x ∧ CmdId.ofCode x.command.toNat = some .revoke ∧ x.master = 0) := by
  decide +kernel

theorem witness_SetMembersReplacesTheSet :
    let x := doing 0 .setMembers 1#32 63#32 0#32 0#32
    let y := doing 0 .setMembers 0x205#32 63#32 0#32 0#32
    let z := doing 3 .setMembers 1#32 63#32 0#32 0#32
    let s := busy x (idle.setWindow 1 { idle.window 1 with state := .draining })
    (Executing (busy x idle) x .setMembers ∧ x.master = 0 ∧ setMembersInRange x.params = true ∧
      handleOf x.params.p0 = { slot := 1, gen := (idle.window 1).gen } ∧ (idle.window 1).layer = .common ∧
      (idle.window 1).state = .active) ∧
    (Executing (busy z idle) z .setMembers ∧ z.master ≠ 0 ∧ setMembersInRange z.params = true) ∧
    (Executing (busy y idle) y .setMembers ∧ setMembersInRange y.params = true ∧
      handleOf y.params.p0 = { slot := 5, gen := (idle.window 5).gen } ∧ (idle.window 5).layer = .priv ∧
      (idle.window 5).state ≠ .free) ∧
    (Executing s x .setMembers ∧ (s.window 1).layer = .common ∧ (s.window 1).state ≠ .active ∧
      (s.window 1).state ≠ .lapsed ∧ (s.window 1).state ≠ .free) :=
  ⟨⟨executing _ _ _ rfl, by decide +kernel⟩, ⟨executing _ _ _ rfl, by decide +kernel⟩,
    ⟨executing _ _ _ rfl, by decide +kernel⟩, executing _ _ _ rfl, by decide +kernel⟩

/-- QUERY by M0, the holder, the recipient and a member in each view; QUERY_ADDRESS at the last windowable address;
FIND_HELD from slot 31 and from slot 0. -/
theorem witness_TableQueriesReportAndChangeNothing :
    (∀ c ∈ [(0, 5), (1, 5), (3, 3), (2, 1)],
      let m : Master := Fin.ofNat 6 c.1
      let i : Slot := Fin.ofNat 32 c.2
      ∀ view : Fin 2,
      let x := doing m .query (handleWord (idle.handle i)) (BitVec.ofNat 32 view.val) 0#32 0#32
      let w := idle.window i
      (busy x idle).engine.execution = some x ∧ CmdId.ofCode x.command.toNat = some .query ∧
      queryInRange x.params = true ∧ handleOf x.params.p0 = { slot := i, gen := w.gen } ∧ w.state ≠ .free ∧
      (x.master = 0 ∨ w.holder = x.master ∨ (w.state = .offered ∧ ∃ o ∈ w.offer, o.recipient = x.master) ∨
        (w.layer = .common ∧ ∃ set ∈ w.members, set.getLsbD x.master.val = true))) ∧
    (let x := doing 1 .queryAddress (field 28 0 0xFFEFFFF) (field 2 0 AccessKind.fetch.code) 0#32 0#32
     (busy x idle).engine.execution = some x ∧ CmdId.ofCode x.command.toNat = some .queryAddress ∧
     (0xFFEFFFF#28).toNat < 0xFFF0000 ∧ x.params.p0 = field 28 0 (0xFFEFFFF#28).toNat ∧
     x.params.p1 = field 2 0 AccessKind.fetch.code) ∧
    (let x := fun start : Slot => doing 2 .findHeld (field 5 0 start.val) 0#32 0#32 0#32
     (∀ start : Slot, (busy (x start) idle).engine.execution = some (x start) ∧
       CmdId.ofCode (x start).command.toNat = some .findHeld ∧ (x start).params.p0 = field 5 0 start.val) ∧
     ((idle.window 2).state ≠ .free ∧ (idle.window 2).holder = 2 ∧
       ∀ j : Slot, 0 ≤ j → j < 2 → (idle.window j).state = .free ∨ (idle.window j).holder ≠ 2) ∧
     ∀ j : Slot, 31 ≤ j → (idle.window j).state = .free ∨ (idle.window j).holder ≠ 2) :=
  ⟨by decide +kernel, by decide +kernel, by decide +kernel⟩

/-! #### Leases and handoff -/

theorem witness_RenewAndSetLeaseClock :
    (∀ c ∈ [(2, 2), (3, 2), (4, 1)],
      let i : Slot := Fin.ofNat 32 c.1
      let x := doing (Fin.ofNat 6 c.2) .renew (handleWord (idle.handle i)) 0#32 0#32 0#32
      let w := idle.window i
      (busy x idle).engine.execution = some x ∧ CmdId.ofCode x.command.toNat = some .renew ∧
      handleInRange x.params.p0 = true ∧ handleOf x.params.p0 = { slot := i, gen := w.gen } ∧ w.holder = x.master ∧
      w.leasePeriod = some (w.leasePeriod.getD 0)) ∧
    (idle.window 2).state = .active ∧ (idle.window 3).state = .offered ∧ (idle.window 4).state = .lapsed ∧
    (let x := doing 0 .setLeaseClock (field 12 0 4095) (field 8 0 255 ||| field 8 8 255) 0#32 0#32
     (busy x idle).engine.execution = some x ∧ CmdId.ofCode x.command.toNat = some .setLeaseClock ∧ x.master = 0 ∧
     (4095 : Nat) < 4096 ∧ (255 : Nat) < 256) := by decide +kernel

theorem witness_OfferMovesTheWindowToOffered :
    let x := doing 2 .offer 2#32 0xFF01#32 0#32 0#32
    let w := idle.window 2
    Executing (busy x idle) x .offer ∧ offerInRange x.params = true ∧
    handleOf x.params.p0 = { slot := 2, gen := w.gen } ∧ recipientParam x.params = 1 ∧ offerTicks x.params = 255 ∧
    w.holder = x.master ∧ w.state = .active ∧ w.layer = .priv ∧ (1 : Master) ≠ x.master ∧
    (idle.master 1).state ≠ .offline :=
  ⟨executing _ _ _ rfl, by decide +kernel⟩

theorem witness_WithdrawAndDeclineEndTheOffer :
    let w := idle.window 3
    handleInRange 0x503#32 = true ∧ handleOf 0x503#32 = { slot := 3, gen := w.gen } ∧ w.state = .offered ∧
    w.offer = some { recipient := 3, ticks := 1 } ∧ w.layer = .priv ∧
    (let x := doing 2 .withdraw 0x503#32 0#32 0#32 0#32
     (busy x idle).engine.execution = some x ∧ CmdId.ofCode x.command.toNat = some .withdraw ∧ w.holder = x.master) ∧
    (let x := doing 3 .decline 0x503#32 0#32 0#32 0#32
     (busy x idle).engine.execution = some x ∧ CmdId.ofCode x.command.toNat = some .decline ∧ 3 = x.master) := by
  decide +kernel

/-- At the last of the recipient's quota. -/
theorem witness_AcceptMovesTheWindow :
    let x := doing 3 .accept 0x503#32 0#32 0#32 0#32
    let s := busy x (idle.setMaster 3 { idle.master 3 with quota := 1 })
    let w := s.window 3
    Executing s x .accept ∧ handleInRange x.params.p0 = true ∧ handleOf x.params.p0 = { slot := 3, gen := w.gen } ∧
    w.state = .offered ∧ w.offer = some { recipient := 3, ticks := 1 } ∧ 3 = x.master ∧
    s.heldPrivate x.master + 1 = (s.master x.master).quota ∧
    ∀ j, (s.window j).live = true → (s.window j).layer = .priv → (s.window j).holder = x.master →
      Apart w.fabricBase w.length (s.window j).fabricBase (s.window j).length := by
  refine ⟨executing _ _ _ rfl, ?_⟩
  unfold Apart
  decide +kernel

/-! #### Faults, notices, masters and targets -/

theorem witness_ReadFaultAndClearFault :
    ∀ id ∈ [CmdId.readFault, .clearFault],
      Executing (busy (doing 3 id 0#32 0#32 0#32 0#32) idle) (doing 3 id 0#32 0#32 0#32 0#32) id :=
  fun id _ => executing _ _ _ (by cases id <;> rfl)

theorem witness_ReleaseHoldAndAttach :
    (let x := doing 0 .releaseHold 3#32 0#32 0#32 0#32
     Executing (busy x idle) x .releaseHold ∧ x.master = 0 ∧ x.params.p0 = field 3 0 3 ∧
     (idle.master 3).state = .held) ∧
    (let x := doing 0 .attach 5#32 0#32 0#32 0#32
     Executing (busy x idle) x .attach ∧ x.master = 0 ∧ x.params.p0 = field 3 0 5 ∧ (idle.master 5).state = .offline) :=
  ⟨⟨executing _ _ _ rfl, by decide +kernel⟩, executing _ _ _ rfl, by decide +kernel⟩

theorem witness_TakeNoticeTakesTheFirstByOrder :
    let x := doing 2 .takeNotice 0#32 0#32 0#32 0#32
    Executing (busy x sample) x .takeNotice ∧ NoticesUnique (busy x sample) ∧
    (sample.master 2).order.Perm defaultOrder ∧
    (faultNotice ∈ (sample.master 2).notices ∧ ∀ y ∈ (sample.master 2).notices,
      (sample.master 2).order.idxOf NoticeKind.fault ≤ (sample.master 2).order.idxOf y.kind ∧
        (y.kind = .fault → (0 : Slot) ≤ y.key)) ∧
    (sample.master 4).notices = [] :=
  ⟨executing _ _ _ rfl, witness_noticesUnique, by decide +kernel⟩

theorem witness_SetNoticeOrderAndEnable :
    (let x := doing 3 .setNoticeOrder (orderWord0 defaultOrder.reverse) (orderWord1 defaultOrder.reverse) 0#32 0#32
     Executing (busy x idle) x .setNoticeOrder ∧ defaultOrder.reverse.Perm defaultOrder) ∧
    (let x := doing 3 .setNoticeEnable 0x7FF#32 0#32 0#32 0#32
     Executing (busy x idle) x .setNoticeEnable ∧ x.params.p0 = (0x7FF#11).setWidth 32) :=
  ⟨⟨executing _ _ _ rfl, by decide⟩, executing _ _ _ rfl, by decide⟩

theorem witness_SetMasterAndQueryMaster :
    (let x := doing 0 .setMaster (field 3 0 5) (field 6 0 32 ||| field 1 8 1 ||| field 1 9 1) 0#32 0#32
     Executing (busy x idle) x .setMaster ∧ x.master = 0 ∧ (32 : Nat) ≤ 32 ∧ ¬((5 : Master) = 0 ∧ FaultPolicy.hold = .hold) ∧
     x.params.p1 = field 6 0 32 ||| field 1 8 FaultPolicy.hold.code ||| field 1 9 Disposition.keep.code) ∧
    (let x := doing 5 .queryMaster (field 3 0 5) 0#32 0#32 0#32
     Executing (busy x idle) x .queryMaster ∧ x.master = 5 ∧ x.params.p0 = field 3 0 5) :=
  ⟨⟨executing _ _ _ rfl, by decide +kernel⟩, executing _ _ _ rfl, by decide +kernel⟩

theorem witness_DetachTakesTheMasterOffline :
    let x := doing 0 .detach (field 3 0 3) 0#32 0#32 0#32
    OfferLaw (busy x sample) ∧ NoticesUnique (busy x sample) ∧ Executing (busy x sample) x .detach ∧ x.master = 0 ∧
    (3 : Master) ≠ 0 ∧
    (sample.master 3).state ≠ .offline ∧ ∃ o ∈ (sample.window 3).offer, o.recipient = 3 :=
  ⟨witness_offerLaw, witness_noticesUnique, executing _ _ _ rfl, by decide +kernel⟩

theorem witness_TargetCommandsActOnTheRecord :
    (let x := doing 0 .setTarget (field 2 0 2) (field 17 0 4 ||| field 2 20 Width.w16.code)
        (field 5 0 31 ||| field 4 8 15 ||| field 10 16 8) 0#32
     Executing (busy x idle) x .setTarget ∧ x.master = 0 ∧
     SettingsInRange { width := .w16, size := 4, wait := 31, recovery := 15, limit := 8 } ∧
     (idle.target 2).state ≠ .online ∧
     ∀ i, (idle.window i).live = true → (idle.window i).target = 2 →
       (idle.window i).targetBase + (idle.window i).length ≤ 4) ∧
    (let x := doing 0 .targetOnline (field 2 0 2) 0#32 0#32 0#32
     Executing (busy x idle) x .targetOnline ∧ x.master = 0) ∧
    (let x := doing 0 .targetOffline (field 2 0 2) 0#32 0#32 0#32
     Executing (busy x idle) x .targetOffline ∧ x.master = 0 ∧ (idle.target 2).state ≠ .offline) ∧
    (let x := doing 4 .queryTarget (field 2 0 2) 0#32 0#32 0#32
     Executing (busy x idle) x .queryTarget) :=
  ⟨⟨executing _ _ _ rfl, by unfold SettingsInRange; decide +kernel⟩, ⟨executing _ _ _ rfl, by decide⟩,
    ⟨executing _ _ _ rfl, by decide +kernel⟩, executing _ _ _ rfl⟩

/-! #### Ticks and resets -/

/-- A lease at the margin, an offer, a lease and a grace at their last tick. -/
theorem witness_TickCountsEveryWindowAlone :
    NoticesUnique sample ∧ OfferLaw sample ∧ LeaseWarns sample.timer (sample.window 3) ∧
    OfferEnds (sample.window 3) { recipient := 3, ticks := 1 } ∧ LeaseEnds (sample.window 7) ∧
    GraceEnds (sample.window 4) ∧ sample.drst = false ∧ (sample.window 3).state = .offered ∧ (sample.window 3).leasePeriod.isSome = true ∧
    (sample.window 3).leaseRemaining - 1 ≠ 0 ∧ (sample.window 3).leaseRemaining - 1 = sample.timer.margin ∧
    (sample.window 3).warned = false := by
  refine ⟨witness_noticesUnique, witness_offerLaw, ?_⟩
  unfold OfferEnds LeaseWarns LeaseEnds GraceEnds
  decide +kernel

/-- Slot 7 ACTIVE at its last tick, slot 3 OFFERED at its last, with grace 8 and with grace 0. -/
theorem witness_LeaseExpiryLapsesOrRetires :
    let s := sample.setWindow 3 { sample.window 3 with leaseRemaining := 1 }
    s.drst = false ∧ ((s.window 7).leasePeriod.isSome = true ∧ (s.window 7).leaseRemaining = 1 ∧ s.timer.grace ≠ 0 ∧
      (s.window 7).state = .active ∧ (s.window 7).offer = none) ∧
    ((s.window 3).leasePeriod.isSome = true ∧ (s.window 3).leaseRemaining = 1 ∧ (s.window 3).state = .offered ∧
      (s.window 3).offer = some { recipient := 3, ticks := 1 }) ∧
    { s with timer := { s.timer with grace := 0 } }.timer.grace = 0 := by decide +kernel

theorem witness_GraceExpiryAndOfferExpiry :
    sample.drst = false ∧ ((sample.window 4).state = .lapsed ∧ (sample.window 4).graceRemaining = 1) ∧
    (sample.window 3).state = .offered ∧ (sample.window 3).offer = some { recipient := 3, ticks := 1 } := by decide +kernel

theorem witness_MasterResetUnwindsOneMaster :
    (OfferLaw sample ∧ NoticesUnique sample ∧ (sample.port 2).lineAsserted = false) ∧
    (sample.port 4).lineAsserted = true :=
  ⟨⟨witness_offerLaw, witness_noticesUnique, by decide +kernel⟩, by decide +kernel⟩

/-! #### Invariants of every step -/

theorem witness_step : ∃ u, step sample = .next u := ⟨_, rfl⟩

theorem witness_targetPortLaw : TargetPortLaw sample := by unfold TargetPortLaw; decide +kernel

theorem witness_LawfulWindowsKeptByEveryStep :
    OfferLaw sample ∧ LawfulWindows sample ∧ ∃ u, step sample = .next u :=
  ⟨witness_offerLaw, witness_lawfulWindows, witness_step⟩

/-- `sample` with one command waiting. -/
def queued (c : Instr) (s : State) : State := { s with pending := [c] }

/-- An OFFER, an ACCEPT, a DETACH of M3, an ATTACH of M5, a device reset and a reset of M3's line. -/
theorem witness_OfferLawKeptByEveryStep :
    (OfferLaw sample ∧ ∃ u, step sample = .next u) ∧
    (let s := queued .offer (busy (doing 2 .offer 2#32 0x0101#32 0#32 0#32) sample)
     ∃ u, step s = .next u ∧ (s.window 2).offer = none ∧ (u.window 2).offer ≠ none) ∧
    (let s := queued .accept (busy (doing 3 .accept 0x503#32 0#32 0#32 0#32) sample)
     ∃ u, step s = .next u ∧ (s.window 3).live = true ∧ (u.window 3).live = true ∧
       (u.window 3).holder ≠ (s.window 3).holder) ∧
    (let s := queued .detach (busy (doing 0 .detach 3#32 0#32 0#32 0#32) sample)
     ∃ u, step s = .next u ∧ (s.master 3).state ≠ .offline ∧ (u.master 3).state = .offline) ∧
    (∃ u, step (queued .attach (busy (doing 0 .attach 5#32 0#32 0#32 0#32) sample)) = .next u) ∧
    (∃ u, step (queued .deviceReset sample) = .next u) ∧
    ((∃ u, step (queued (.masterReset 3) sample) = .next u) ∧ (sample.port 3).lineAsserted = false ∧
      ∃ o ∈ (sample.window 3).offer, o.recipient = 3) :=
  ⟨⟨witness_offerLaw, witness_step⟩, ⟨_, rfl, by decide +kernel⟩, ⟨_, rfl, by decide +kernel⟩,
    ⟨_, rfl, by decide +kernel⟩, ⟨_, rfl⟩, ⟨_, rfl⟩, ⟨_, rfl⟩, by decide +kernel⟩

theorem witness_InFlightCountsKeptByEveryStep :
    TargetPortLaw sample ∧ CountedAccesses sample ∧ ∃ u, step sample = .next u :=
  ⟨witness_targetPortLaw, witness_countedAccesses, witness_step⟩

theorem witness_TagsAccountedForByEveryStep :
    TargetPortLaw sample ∧ TagsAccounted sample ∧ ∃ u, step sample = .next u :=
  ⟨witness_targetPortLaw, witness_tagsAccounted, witness_step⟩

theorem witness_TargetPortsKeepTheirLaw : TargetPortLaw sample ∧ ∃ u, step sample = .next u :=
  ⟨witness_targetPortLaw, witness_step⟩

theorem witness_NoticeSetsHoldOneOfAKindAndKey :
    (NoticesUnique sample ∧ OfferLaw sample ∧ ∃ u, step sample = .next u) ∧
    (∃ u, step (queued .deviceReset sample) = .next u) ∧
    ((∃ u, step (queued (.masterReset 3) sample) = .next u) ∧ (sample.port 3).lineAsserted = false) ∧
    (let s := queued .attach (busy (doing 0 .attach 5#32 0#32 0#32 0#32) sample)
     ∃ u, step s = .next u ∧ (s.master 5).state = .offline ∧ (u.master 5).state ≠ .offline) ∧
    (let s := queued .detach (busy (doing 0 .detach 2#32 0#32 0#32 0#32) sample)
     ∃ u, step s = .next u ∧ (s.master 2).state ≠ .offline ∧ (u.master 2).state = .offline ∧
       (u.master 2).notices ≠ []) ∧
    (∃ u, step (queued .takeNotice (busy (doing 2 .takeNotice 0#32 0#32 0#32 0#32) sample)) = .next u) :=
  ⟨⟨witness_noticesUnique, witness_offerLaw, witness_step⟩, ⟨_, rfl⟩, ⟨⟨_, rfl⟩, by decide +kernel⟩, ⟨_, rfl, by decide +kernel⟩,
    ⟨_, rfl, by decide +kernel⟩, _, rfl⟩

theorem witness_SupervisorStaysOnline : SupervisorLaw sample ∧ ∃ u, step sample = .next u :=
  ⟨by unfold SupervisorLaw; decide +kernel, witness_step⟩

theorem witness_OfflineMastersStayWithoutWindows : OfferLaw sample ∧ OfflineLaw sample ∧ ∃ u, step sample = .next u :=
  ⟨witness_offerLaw, by unfold OfflineLaw; decide +kernel, witness_step⟩

theorem witness_QuotaBoundsEveryGain : OfferLaw sample ∧ ∃ u, step sample = .next u := ⟨witness_offerLaw, witness_step⟩

theorem witness_MailboxesFollowTheEngine : MailboxLaw sample ∧ ∃ u, step sample = .next u :=
  ⟨by unfold MailboxLaw; decide +kernel, witness_step⟩

theorem witness_FieldsStayInRange :
    InRange sample ∧
    ∃ u, step sample = .next u ∧ CountedAccesses u ∧ TagsAccounted u ∧ LawfulWindows u ∧ (u.window 5).live = true ∧
      (u.window 5).fabricBase = 65519 := by
  refine ⟨?_, _, rfl, ?_⟩
  · unfold InRange WindowInRange MasterInRange SettingsInRange TimerInRange
    decide +kernel
  · unfold CountedAccesses TagsAccounted LawfulWindows Apart
    exact ⟨by decide +kernel, by decide +kernel, ⟨by decide +kernel, by decide +kernel⟩, by decide +kernel⟩

theorem witness_ShapeOfALiveWindowIsFixed :
    sample.pending.head? ≠ some .deviceReset ∧ (∃ u, step sample = .next u ∧ (u.window 2).state ≠ .free) ∧
    (sample.window 2).state ≠ .free :=
  ⟨by decide, ⟨_, rfl, by decide +kernel⟩, by decide +kernel⟩

end Sys2Proof.Tests
end

section
/-! SET_MEMBERS (R96): how a list of checks is consumed one check at a time, when a handle is current, what the body of
SET_MEMBERS comes to in each of its cases, and the obligation assembled from these. -/

namespace Sys2Proof.Machine

open Sys2Proof.Safety

/-! ### Checks, one at a time (R77) -/

/-- Without checks the effect is applied. -/
@[simp] theorem checked_nil (s : State) (c : Completion) : checked [] s c = c := rfl

/-- A check that passes leaves the decision to the later ones. -/
@[simp] theorem checked_cons_true (r : ResultCode) (l : List (Bool × ResultCode)) (s : State) (c : Completion) :
    checked ((true, r) :: l) s c = checked l s c := rfl

/-- A check that fails decides, whatever comes after it. -/
@[simp] theorem checked_cons_false (r : ResultCode) (l : List (Bool × ResultCode)) (s : State) (c : Completion) :
    checked ((false, r) :: l) s c = refusal r s := rfl

/-- Step 2 of the generic order passes for M0. -/
@[simp] theorem supervisorCheck_zero : supervisorCheck 0 = (true, .notSupervisor) := rfl

/-- Step 2 of the generic order fails for every other master. -/
theorem supervisorCheck_of_ne {m : Master} (h : m ≠ 0) : supervisorCheck m = (false, .notSupervisor) := by
  simp [supervisorCheck, h]

/-- A handle is current when its slot is live at its generation (R5). -/
theorem current_iff {s : State} {h : Handle} :
    s.current h = true ↔ (s.window h.slot).state ≠ .free ∧ (s.window h.slot).gen = h.gen := by
  simp [State.current, Window.live]

/-! ### The body of SET_MEMBERS (R96) -/

/-- The completion row of SET_MEMBERS, while the engine executes SET_MEMBERS. -/
theorem exec_setMembers_of_executing {s : State} {x : Execution} (h : Executing s x .setMembers) :
    exec .setMembers s = .next (finish x (setMembersBody x.master x.params s)) := by
  obtain ⟨hx, hid⟩ := h
  exact congrArg _ (completeCommand_of_executing hx hid)

/-- Step 2 comes first: another master than M0 is refused, whatever the parameters are. -/
theorem setMembersBody_of_not_supervisor {m : Master} (p : Params) (s : State) (hm : m ≠ 0) :
    setMembersBody m p s = refusal .notSupervisor s := by
  simp [setMembersBody, setMembersChecks, supervisorCheck_of_ne hm]

/-- What a SET_MEMBERS on the handle `h` that passes its checks comes to: the new set in the window, the old one in the
result. -/
def membersReplaced (h : Handle) (members : BitVec 6) (s : State) : Completion :=
  { state := s.setWindow h.slot { s.window h.slot with members := some members }
    code := .done
    words := words2 (handleWord h) (field 6 0 (((s.window h.slot).members.map BitVec.toNat).getD 0)) }

section
variable {p : Params} {s : State} {h : Handle} (hp : setMembersInRange p = true) (hh : handleOf p.p0 = h)
  (hc : s.current h = true)
include hp hh hc

/-- From M0, with the fields in range and the handle current, the checks left are those of the layer and the state. -/
theorem setMembersBody_zero :
    setMembersBody 0 p s =
      checked
        [((s.window h.slot).layer == .common, .wrongLayer),
          ((s.window h.slot).state == .active || (s.window h.slot).state == .lapsed, .wrongState)] s
        (membersReplaced h (membersParam p) s) := by
  subst hh
  simp [setMembersBody, setMembersChecks, membersReplaced, hp, hc]

/-- A window that is not common has no member set to replace. -/
theorem setMembersBody_of_priv (hl : (s.window h.slot).layer = .priv) :
    setMembersBody 0 p s = refusal .wrongLayer s := by
  have fails : ((s.window h.slot).layer == .common) = false := by simp [hl]
  rw [setMembersBody_zero hp hh hc, fails, checked_cons_false]

variable (hl : (s.window h.slot).layer = .common)
include hl

/-- On a common window the state alone decides. -/
theorem setMembersBody_of_common :
    setMembersBody 0 p s =
      checked [((s.window h.slot).state == .active || (s.window h.slot).state == .lapsed, .wrongState)] s
        (membersReplaced h (membersParam p) s) := by
  have passes : ((s.window h.slot).layer == .common) = true := by simp [hl]
  rw [setMembersBody_zero hp hh hc, passes, checked_cons_true]

/-- A common window that is neither ACTIVE nor LAPSED keeps its set. -/
theorem setMembersBody_of_wrong_state (ha : (s.window h.slot).state ≠ .active)
    (hz : (s.window h.slot).state ≠ .lapsed) :
    setMembersBody 0 p s = refusal .wrongState s := by
  have fails : ((s.window h.slot).state == .active || (s.window h.slot).state == .lapsed) = false := by
    simp [ha, hz]
  rw [setMembersBody_of_common hp hh hc hl, fails, checked_cons_false]

/-- An ACTIVE or LAPSED common window takes the set asked for. -/
theorem setMembersBody_of_pass (hs : (s.window h.slot).state = .active ∨ (s.window h.slot).state = .lapsed) :
    setMembersBody 0 p s = membersReplaced h (membersParam p) s := by
  have passes : ((s.window h.slot).state == .active || (s.window h.slot).state == .lapsed) = true := by
    simpa using hs
  rw [setMembersBody_of_common hp hh hc hl, passes, checked_cons_true, checked_nil]

end

/-- Settles O31: the body of SET_MEMBERS in the case each clause names, once the handle is known to be current. -/
theorem setMembersReplacesTheSet : Obligations.SetMembersReplacesTheSet := by
  rintro s x i w hx hp hh rfl hfree
  have hc : s.current { slot := i, gen := (s.window i).gen } = true := current_iff.2 ⟨hfree, rfl⟩
  rw [exec_setMembers_of_executing hx]
  refine ⟨fun hm hl hs => ?replaced, fun hm => ?notSupervisor, fun hm hl => ?wrongLayer,
    fun hm hl ha hz => ?wrongState⟩
  case replaced => rw [hm, setMembersBody_of_pass hp hh hc hl hs]; rfl
  case notSupervisor => rw [setMembersBody_of_not_supervisor _ _ hm]; rfl
  case wrongLayer => rw [hm, setMembersBody_of_priv hp hh hc hl]; rfl
  case wrongState => rw [hm, setMembersBody_of_wrong_state hp hh hc hl ha hz]; rfl

end Sys2Proof.Machine
end

section
/-! The offer law at one window (R131): the changes of a window that start no offer, move no live window to another
layer or holder and make none live, and the changes of a state all of whose windows change so. -/

namespace Sys2Proof.Machine

open Sys2Proof.Safety

/-! ### A window -/

/-- R131 at one window: OFFERED exactly with an offer. -/
def Window.OfferMarked (w : Window) : Prop := w.state = .offered ↔ w.offer.isSome = true

/-- What a window `v` has kept of `w`: an offer stands only where one to the same recipient stood, and a live window has
been live, with its layer and holder. -/
structure Window.Continues (w v : Window) : Prop where
  marked : v.OfferMarked
  offer : ∀ o' ∈ v.offer, ∃ o ∈ w.offer, o'.recipient = o.recipient
  live : v.live = true → w.live = true ∧ v.layer = w.layer ∧ v.holder = w.holder

/-- From a window that meets R131 to one that meets it and continues it. -/
def Window.Evolves (w v : Window) : Prop := w.OfferMarked → w.Continues v

theorem Window.live_iff {w : Window} : w.live = true ↔ w.state ≠ .free := by simp [Window.live]

/-- An OFFERED window is live. -/
theorem Window.live_of_offered {w : Window} (h : w.state = .offered) : w.live = true := by simp [Window.live, h]

theorem Window.OfferMarked.state_of_mem {w : Window} (h : w.OfferMarked) {o : Offer} (ho : o ∈ w.offer) :
    w.state = .offered := h.2 (Option.isSome_of_mem ho)

theorem Window.OfferMarked.live_of_mem {w : Window} (h : w.OfferMarked) {o : Offer} (ho : o ∈ w.offer) :
    w.live = true := Window.live_of_offered (h.state_of_mem ho)

/-- A window without an offer meets R131 in every state but OFFERED. -/
theorem Window.offerMarked_of_none {w : Window} (ho : w.offer = none) (hs : w.state ≠ .offered) : w.OfferMarked := by
  simp [Window.OfferMarked, ho, hs]

theorem Window.Evolves.refl (w : Window) : w.Evolves w :=
  fun h => ⟨h, fun o ho => ⟨o, ho, rfl⟩, fun hl => ⟨hl, rfl, rfl⟩⟩

theorem Window.Evolves.trans {w v x : Window} (h : w.Evolves v) (h' : v.Evolves x) : w.Evolves x := by
  intro hw
  have wv := h hw
  have vx := h' wv.marked
  refine ⟨vx.marked, fun o'' ho'' => ?offer, fun hl => ?live⟩
  case offer =>
    obtain ⟨o', ho', e'⟩ := vx.offer o'' ho''
    obtain ⟨o, ho, e⟩ := wv.offer o' ho'
    exact ⟨o, ho, e'.trans e⟩
  case live =>
    obtain ⟨hv, el, eh⟩ := vx.live hl
    obtain ⟨hw, el', eh'⟩ := wv.live hv
    exact ⟨hw, el.trans el', eh.trans eh'⟩

/-- A change of other fields than state, offer, layer and holder. -/
theorem Window.evolves_of_fields {w v : Window} (hs : v.state = w.state) (ho : v.offer = w.offer)
    (hl : v.layer = w.layer) (hh : v.holder = w.holder) : w.Evolves v := by
  intro hw
  refine ⟨?_, fun o hv => ⟨o, ho ▸ hv, rfl⟩, fun h => ⟨?_, hl, hh⟩⟩
  · simpa [Window.OfferMarked, hs, ho] using hw
  · simpa [Window.live, hs] using h

/-- An end of the offer, if there is one, of a live window that keeps its layer and its holder. -/
theorem Window.evolves_of_no_offer {w v : Window} (hw : w.live = true) (ho : v.offer = none) (hs : v.state ≠ .offered)
    (hl : v.layer = w.layer) (hh : v.holder = w.holder) : w.Evolves v :=
  fun _ => ⟨Window.offerMarked_of_none ho hs, by simp [ho], fun _ => ⟨hw, hl, hh⟩⟩

/-- A slot becoming FREE (R20). -/
theorem Window.evolves_freeWindow (w : Window) (g : Gen) : w.Evolves (freeWindow g) :=
  fun _ => ⟨by simp [Window.OfferMarked, freeWindow], by simp [freeWindow], by simp [freeWindow, Window.live]⟩

/-! ### A state -/

/-- Every window evolves, and no master becomes OFFLINE. -/
structure KeepsOffers (s u : State) : Prop where
  window : ∀ i, (s.window i).Evolves (u.window i)
  offline : ∀ m, (u.master m).state = .offline → (s.master m).state = .offline

theorem KeepsOffers.refl (s : State) : KeepsOffers s s := ⟨fun _ => .refl _, fun _ h => h⟩

theorem KeepsOffers.trans {s t u : State} (h : KeepsOffers s t) (h' : KeepsOffers t u) : KeepsOffers s u :=
  ⟨fun i => (h.window i).trans (h'.window i), fun m hm => h.offline m (h'.offline m hm)⟩

/-- A change that reaches no window and no state of a master. -/
theorem keepsOffers_of_tables {s u : State} (hw : ∀ i, u.window i = s.window i)
    (hm : ∀ m, (u.master m).state = (s.master m).state) : KeepsOffers s u :=
  ⟨fun i => hw i ▸ .refl _, fun m h => hm m ▸ h⟩

/-- A change of one window. -/
theorem keepsOffers_of_slot {s u : State} {i : Slot} {v : Window} (hv : (s.window i).Evolves v)
    (hw : ∀ j, u.window j = if j = i then v else s.window j) (hm : ∀ m, (u.master m).state = (s.master m).state) :
    KeepsOffers s u := by
  refine ⟨fun j => ?_, fun m h => hm m ▸ h⟩
  rw [hw]
  split
  case isTrue e => exact e ▸ hv
  case isFalse => exact .refl _

theorem keepsOffers_setWindow {s : State} {i : Slot} {v : Window} (hv : (s.window i).Evolves v) :
    KeepsOffers s (s.setWindow i v) :=
  keepsOffers_of_slot hv (fun j => s.window_setWindow i j v) fun _ => rfl

/-- A change of one master record that does not make the master OFFLINE. -/
theorem keepsOffers_setMaster {s : State} {m : Master} {r : MasterRecord}
    (h : r.state = .offline → (s.master m).state = .offline) : KeepsOffers s (s.setMaster m r) := by
  refine ⟨fun _ => .refl _, fun n hn => ?_⟩
  rw [State.master_setMaster] at hn
  split at hn
  case isTrue e => exact e ▸ h hn
  case isFalse => exact hn

theorem keepsOffers_setPort (s : State) (m : Master) (p : MasterPort) : KeepsOffers s (s.setPort m p) :=
  keepsOffers_of_tables (fun _ => rfl) fun _ => rfl

theorem keepsOffers_setMailbox (s : State) (m : Master) (b : Mailbox) : KeepsOffers s (s.setMailbox m b) :=
  keepsOffers_of_tables (fun _ => rfl) fun _ => rfl

theorem keepsOffers_setTarget (s : State) (t : Target) (p : TargetPort) : KeepsOffers s (s.setTarget t p) :=
  keepsOffers_of_tables (fun _ => rfl) fun _ => rfl

theorem keepsOffers_with_timer (s : State) (x : LeaseTimer) : KeepsOffers s { s with timer := x } :=
  keepsOffers_of_tables (fun _ => rfl) fun _ => rfl

theorem keepsOffers_with_drst (s : State) (x : Bool) : KeepsOffers s { s with drst := x } :=
  keepsOffers_of_tables (fun _ => rfl) fun _ => rfl

theorem raiseNotice_keepsOffers (m : Master) (n : Notice) (s : State) : KeepsOffers s (raiseNotice m n s) :=
  keepsOffers_of_tables (by simp) (by simp)

theorem removeNotice_keepsOffers (m : Master) (k : NoticeKind) (i : Slot) (s : State) :
    KeepsOffers s (removeNotice m k i s) :=
  keepsOffers_of_tables (by simp) (by simp)

/-- A sequence of changes. -/
theorem foldl_keepsOffers {α : Type} {f : State → α → State} (hf : ∀ s a, KeepsOffers s (f s a)) (l : List α)
    (s : State) : KeepsOffers s (l.foldl f s) := by
  induction l generalizing s with
  | nil => exact .refl s
  | cons a l ih => exact (hf s a).trans (ih (f s a))

/-! ### The state after such a change -/

/-- R131 for every window, and R131's other sentences for every offer that stands. -/
theorem offerLaw_iff {s : State} :
    OfferLaw s ↔ ∀ i, (s.window i).OfferMarked ∧ ∀ o ∈ (s.window i).offer,
      o.recipient ≠ (s.window i).holder ∧ (s.master o.recipient).state ≠ .offline ∧ (s.window i).layer = .priv :=
  Iff.rfl

/-- Windows that evolve keep the offer law when no recipient of an offer that stands becomes OFFLINE. -/
theorem offerLaw_of_evolves {s u : State} (hs : OfferLaw s) (hw : ∀ i, (s.window i).Evolves (u.window i))
    (hm : ∀ i, ∀ o ∈ (u.window i).offer, (u.master o.recipient).state = .offline →
      (s.master o.recipient).state = .offline) : OfferLaw u := by
  rw [offerLaw_iff] at hs ⊢
  intro i
  obtain ⟨marked, standing⟩ := hs i
  have c := hw i marked
  refine ⟨c.marked, fun o' ho' => ?_⟩
  obtain ⟨o, ho, e⟩ := c.offer o' ho'
  obtain ⟨-, el, eh⟩ := c.live (c.marked.live_of_mem ho')
  obtain ⟨self, online, layer⟩ := standing o ho
  exact ⟨by rwa [e, eh], fun h => online (e ▸ hm i o' ho' h), by rwa [el]⟩

theorem KeepsOffers.offerLaw {s u : State} (h : KeepsOffers s u) (hs : OfferLaw s) : OfferLaw u :=
  offerLaw_of_evolves hs h.window fun _ _ _ => h.offline _

end Sys2Proof.Machine
end

section
/-! The shared operations and the ports as changes that keep the offers: no access, no answer and no cycle of a target
port reaches an offer, and an in-flight count that comes to 0 frees a window that has none (R14, R19, R131). -/

namespace Sys2Proof.Machine

/-! ### Answers and the end of an access -/

theorem enterReport_keepsOffers (m : Master) (r : FaultReport) (s : State) : KeepsOffers s (enterReport m r s) := by
  refine keepsOffers_setMaster fun h => ?_
  dsimp only at h
  split at h
  case isTrue => cases h
  case isFalse => exact h

theorem answer_keepsOffers (m : Master) (r : Response) (report : Option FaultReport) (s : State) :
    KeepsOffers s (answer m r report s) := by
  unfold answer
  split
  case isTrue => exact keepsOffers_setPort ..
  case isFalse =>
    cases report with
    | none => exact keepsOffers_setPort ..
    | some f => exact (keepsOffers_setPort ..).trans (enterReport_keepsOffers ..)

theorem countOut_keepsOffers (i : Slot) (s : State) : KeepsOffers s (countOut i s) := by
  refine keepsOffers_of_slot ?_ (countOut_window i s) (by simp)
  split
  case isTrue => exact Window.evolves_freeWindow _ _
  case isFalse => exact Window.evolves_of_fields rfl rfl rfl rfl

theorem endFaulted_keepsOffers (k : FaultKind) (a : Resolved) (s : State) : KeepsOffers s (endFaulted k a s) :=
  (countOut_keepsOffers a.slot s).trans (answer_keepsOffers ..)

theorem endOk_keepsOffers (a : Resolved) (d : ReadData) (s : State) : KeepsOffers s (endOk a d s) :=
  (countOut_keepsOffers a.slot s).trans (answer_keepsOffers ..)

theorem answerDown_keepsOffers (t : Target) (s : State) : KeepsOffers s (answerDown t s) :=
  ((keepsOffers_setTarget s t _).trans (foldl_keepsOffers (fun _ _ => keepsOffers_setPort ..) allMasters _)).trans
    (foldl_keepsOffers (fun s a => endFaulted_keepsOffers .targetDown a s) _ _)

/-! ### The target ports -/

theorem endBeat_keepsOffers (t : Target) (error : Bool) (data : Word) (s : State) :
    KeepsOffers s (endBeat t error data s) := by
  unfold endBeat
  split
  case h_1 =>
    split
    case isTrue => exact (keepsOffers_setTarget ..).trans (endFaulted_keepsOffers ..)
    case isFalse =>
      dsimp only
      split
      case isTrue => exact keepsOffers_setTarget ..
      case isFalse => exact (keepsOffers_setTarget ..).trans (endOk_keepsOffers ..)
  case h_2 => exact .refl s

theorem waitCountEnds_keepsOffers (t : Target) (s : State) : KeepsOffers s (waitCountEnds t s) := by
  unfold waitCountEnds
  split
  case isTrue => exact endBeat_keepsOffers ..
  case isFalse => exact keepsOffers_setTarget ..

theorem recoveryEnds_keepsOffers (t : Target) (s : State) : KeepsOffers s (recoveryEnds t s) := by
  unfold recoveryEnds
  split <;> exact keepsOffers_setTarget ..

theorem responseTimerExpires_keepsOffers (t : Target) (s : State) : KeepsOffers s (responseTimerExpires t s) := by
  unfold responseTimerExpires
  split
  case h_1 => exact .refl s
  case h_2 =>
    refine KeepsOffers.trans ?down (raiseNotice_keepsOffers ..)
    refine KeepsOffers.trans ?failed (answerDown_keepsOffers ..)
    exact ((keepsOffers_setTarget ..).trans (endFaulted_keepsOffers ..)).trans (keepsOffers_setTarget ..)

theorem beatCycle_keepsOffers (t : Target) (c : Captured) (s : State) : KeepsOffers s (beatCycle t c s) := by
  unfold beatCycle
  dsimp only
  split
  case isTrue =>
    split
    case isTrue => exact responseTimerExpires_keepsOffers ..
    case isFalse =>
      split
      case isTrue => exact endBeat_keepsOffers ..
      case isFalse => exact keepsOffers_setTarget ..
  case isFalse =>
    split
    case isTrue => exact waitCountEnds_keepsOffers ..
    case isFalse => exact keepsOffers_setTarget ..

theorem skipRecovery_keepsOffers (t : Target) (s : State) : KeepsOffers s (skipRecovery t s) := by
  unfold skipRecovery
  split
  case isTrue => exact recoveryEnds_keepsOffers t s
  case isFalse => exact .refl s

theorem phaseCycle_keepsOffers (t : Target) (s : State) : KeepsOffers s (phaseCycle t s) := by
  unfold phaseCycle
  split
  case h_1 => exact beatCycle_keepsOffers ..
  case h_2 =>
    split
    case isTrue => exact recoveryEnds_keepsOffers t s
    case isFalse => exact keepsOffers_setTarget ..
  case h_3 => exact .refl s

theorem targetCycle_keepsOffers (t : Target) (s : State) : KeepsOffers s (targetCycle t s) :=
  ((skipRecovery_keepsOffers t s).trans (phaseCycle_keepsOffers t _)).trans (skipRecovery_keepsOffers t _)

/-! ### The resolver and the command unit -/

theorem hitAccess_keepsOffers (m : Master) (r : Request) (k : AccessKind) (f : Form) (i : Slot) (s : State) :
    KeepsOffers s (hitAccess m r k f i s) := by
  refine KeepsOffers.trans ?_ (keepsOffers_setPort ..)
  exact keepsOffers_setWindow (Window.evolves_of_fields rfl rfl rfl rfl)

theorem resolveAccess_keepsOffers (m : Master) (r : Request) (s : State) : KeepsOffers s (resolveAccess m r s) := by
  unfold resolveAccess
  split
  case h_1 => exact answer_keepsOffers ..
  case h_2 =>
    split
    case h_1 => exact answer_keepsOffers ..
    case h_2 => exact answer_keepsOffers ..
    case h_3 => exact hitAccess_keepsOffers ..

theorem takeAccess_keepsOffers (m : Master) (r : Request) (s : State) : KeepsOffers s (takeAccess m r s) := by
  unfold takeAccess
  split
  case h_1 => exact resolveAccess_keepsOffers m r s
  case h_2 => exact answer_keepsOffers ..
  case h_3 => exact answer_keepsOffers ..

theorem acknowledge_setMailbox_keepsOffers (m : Master) (r : Request) (b : Mailbox) (s : State) :
    KeepsOffers s (acknowledge m r (s.setMailbox m b)) :=
  (keepsOffers_setMailbox s m b).trans (answer_keepsOffers ..)

theorem submitCommand_keepsOffers (m : Master) (r : Request) (w : Word) (s : State) :
    KeepsOffers s (submitCommand m r w s) := by
  unfold submitCommand
  split
  case h_1 => exact answer_keepsOffers ..
  case h_2 => exact answer_keepsOffers ..
  case h_3 => exact acknowledge_setMailbox_keepsOffers ..
  case h_4 => exact acknowledge_setMailbox_keepsOffers ..

theorem popAperture_keepsOffers (m : Master) (rest : List Request) (s : State) :
    KeepsOffers s (popAperture m rest s) := keepsOffers_setPort ..

end Sys2Proof.Machine
end

section
/-! The ends of an offer as changes that keep the offers: withdrawal, decline, retirement, the lapse of a lease and
the countdowns of a tick (R16, R109 to R113, R129), and what a visit of every slot leaves. -/

namespace Sys2Proof.Machine

/-! ### One slot -/

theorem retire_keepsOffers {i : Slot} {s : State} (c : RetireCause) (h : (s.window i).live = true) :
    KeepsOffers s (retire c i s) := by
  refine keepsOffers_of_slot ?_ (retire_window c i s) (by simp)
  split
  case isTrue => exact Window.evolves_freeWindow _ _
  case isFalse => exact Window.evolves_of_no_offer h rfl (by simp) rfl rfl

/-- Without an offer a declined slot stays as it is, so the slot need not be known to be live. -/
theorem declineOffer_keepsOffers (i : Slot) (s : State) : KeepsOffers s (declineOffer i s) := by
  refine ⟨fun j hj => ?_, by simp⟩
  rw [declineOffer_window]
  split
  case isTrue e =>
    obtain ⟨rfl, offer⟩ := e
    exact Window.evolves_of_no_offer (Window.live_of_offered (hj.2 offer)) rfl (by simp) rfl rfl hj
  case isFalse => exact Window.Evolves.refl _ hj

theorem reactivate_withdrawOffer_keepsOffers {i : Slot} {s : State} (h : (s.window i).live = true) :
    KeepsOffers s (reactivate i (withdrawOffer i s)) :=
  keepsOffers_of_slot (v := { s.window i with offer := none, state := .active })
    (Window.evolves_of_no_offer h rfl (by simp) rfl rfl) (fun j => by by_cases e : j = i <;> simp [e]) (by simp)

theorem lapse_keepsOffers {i : Slot} {s : State} (h : (s.window i).live = true) : KeepsOffers s (lapse i s) :=
  keepsOffers_of_slot
    (v := { s.window i with
      offer := none, state := .lapsed, leaseRemaining := 0, warned := false, graceRemaining := s.timer.grace })
    (Window.evolves_of_no_offer h rfl (by simp) rfl rfl)
    (fun j => by by_cases e : j = i <;> simp [lapse, e]) (by simp [lapse])

theorem leaseRunsOut_keepsOffers {i : Slot} {s : State} (h : (s.window i).live = true) :
    KeepsOffers s (leaseRunsOut i s) := by
  unfold leaseRunsOut
  split
  case isTrue => exact (removeNotice_keepsOffers ..).trans (retire_keepsOffers .leaseZero (by simpa using h))
  case isFalse => exact lapse_keepsOffers h

theorem leaseCountdown_keepsOffers {i : Slot} {s : State} (h : (s.window i).live = true) :
    KeepsOffers s (leaseCountdown i s) := by
  have counted : KeepsOffers s (s.setWindow i { s.window i with leaseRemaining := (s.window i).leaseRemaining - 1 }) :=
    keepsOffers_setWindow (Window.evolves_of_fields rfl rfl rfl rfl)
  unfold leaseCountdown
  dsimp only
  split
  case isTrue => exact counted.trans (leaseRunsOut_keepsOffers (by simpa [Window.live] using h))
  case isFalse =>
    split
    case isTrue =>
      refine counted.trans ((keepsOffers_setWindow ?_).trans (raiseNotice_keepsOffers ..))
      exact Window.evolves_of_fields (by simp) (by simp) (by simp) (by simp)
    case isFalse => exact counted

theorem offerCountdown_keepsOffers {i : Slot} {s : State} (h : (s.window i).live = true) :
    KeepsOffers s (offerCountdown i s) := by
  unfold offerCountdown
  dsimp only
  split
  case h_1 => exact .refl s
  case h_2 o ho =>
    split
    case isTrue => exact (reactivate_withdrawOffer_keepsOffers h).trans (raiseNotice_keepsOffers ..)
    case isFalse =>
      refine keepsOffers_setWindow fun marked => ⟨?_, ?_, fun _ => ⟨h, rfl, rfl⟩⟩
      · simpa [Window.OfferMarked, ho] using marked
      · simp [ho]

theorem graceCountdown_keepsOffers {i : Slot} {s : State} (h : (s.window i).live = true) :
    KeepsOffers s (graceCountdown i s) := by
  have counted : KeepsOffers s (s.setWindow i { s.window i with graceRemaining := (s.window i).graceRemaining - 1 }) :=
    keepsOffers_setWindow (Window.evolves_of_fields rfl rfl rfl rfl)
  unfold graceCountdown
  dsimp only
  split
  case isTrue => exact counted.trans (retire_keepsOffers .graceZero (by simpa [Window.live] using h))
  case isFalse => exact counted

theorem slotTick_keepsOffers (i : Slot) (s : State) : KeepsOffers s (slotTick i s) := by
  have lease (h : (s.window i).live = true) :
      KeepsOffers s (if (s.window i).leasePeriod.isSome then leaseCountdown i s else s) := by
    split
    case isTrue => exact leaseCountdown_keepsOffers h
    case isFalse => exact .refl s
  have offer (t : State) : KeepsOffers t (if (t.window i).state == .offered then offerCountdown i t else t) := by
    split
    case isTrue h => exact offerCountdown_keepsOffers (Window.live_of_offered (by simpa using h))
    case isFalse => exact .refl t
  unfold slotTick
  split
  case h_1 => exact .refl s
  case h_2 hs => exact lease (by simp [Window.live, hs])
  case h_3 hs => exact (lease (Window.live_of_offered hs)).trans (offer _)
  case h_4 hs => exact graceCountdown_keepsOffers (by simp [Window.live, hs])
  case h_5 => exact .refl s

theorem tableTick_keepsOffers (s : State) : KeepsOffers s (tableTick s) :=
  foldl_keepsOffers (fun s i => slotTick_keepsOffers i s) _ s

theorem timerCycle_keepsOffers (s : State) : KeepsOffers s (timerCycle s) := by
  unfold timerCycle
  split
  case isTrue => exact (keepsOffers_with_timer ..).trans (tableTick_keepsOffers _)
  case isFalse => exact keepsOffers_with_timer ..

theorem fabricCycle_keepsOffers (s : State) : KeepsOffers s (fabricCycle s) := by
  unfold fabricCycle
  split
  case isTrue => exact .refl s
  case isFalse =>
    exact (foldl_keepsOffers (fun s t => targetCycle_keepsOffers t s) allTargets s).trans (timerCycle_keepsOffers _)

/-! ### Every slot -/

/-- A visit of every slot leaves in each what its own visit makes of the window that was there, when the visit of a slot
reaches no other one. -/
theorem foldl_allSlots_window {f : State → Slot → State} {R : Window → Window → Prop}
    (own : ∀ s i, R (s.window i) ((f s i).window i)) (other : ∀ s i j, j ≠ i → (f s i).window j = s.window j)
    (s : State) (j : Slot) : R (s.window j) ((allSlots.foldl f s).window j) := by
  have kept : ∀ (l : List Slot) (s : State), j ∉ l → (l.foldl f s).window j = s.window j := by
    intro l
    induction l with
    | nil => exact fun _ _ => rfl
    | cons i l ih =>
      intro s hj
      obtain ⟨hi, hl⟩ := not_or.1 (List.mem_cons.not.1 hj)
      exact (ih (f s i) hl).trans (other s i j hi)
  obtain ⟨before, after, e⟩ := List.append_of_mem (List.mem_finRange j)
  have distinct : (before ++ j :: after).Nodup := e ▸ List.nodup_finRange 32
  obtain ⟨-, tail, apart⟩ := List.nodup_append.1 distinct
  have hb : j ∉ before := fun h => apart j h j List.mem_cons_self rfl
  have ha : j ∉ after := (List.nodup_cons.1 tail).1
  rw [allSlots, e, List.foldl_append, List.foldl_cons, kept after _ ha, ← kept before s hb]
  exact own ..

theorem Window.live_of_retirableOf {w : Window} {m : Master} (h : w.retirableOf m = true) : w.live = true := by
  refine Window.live_iff.2 fun hf => ?_
  simp [Window.retirableOf, hf] at h

/-- An OFFERED window that is not common is retirable as one of its holder. -/
theorem Window.retirableOf_of_offered {w : Window} {m : Master} (hl : w.layer = .priv) (hh : w.holder = m)
    (hs : w.state = .offered) : w.retirableOf m = true := by
  simp [Window.retirableOf, hl, hh, hs]

theorem Window.offeredTo_iff {w : Window} {m : Master} : w.offeredTo m = true ↔ ∃ o ∈ w.offer, o.recipient = m := by
  unfold Window.offeredTo
  split
  case h_1 o ho => simp [ho]
  case h_2 ho => simp [ho]

theorem declineOffersTo_keepsOffers (n : Master) (s : State) : KeepsOffers s (declineOffersTo n s) := by
  refine foldl_keepsOffers (fun s i => ?_) _ s
  split
  case isTrue => exact declineOffer_keepsOffers i s
  case isFalse => exact .refl s

theorem retireWindowsOf_keepsOffers (c : RetireCause) (n : Master) (s : State) :
    KeepsOffers s (retireWindowsOf c n s) := by
  refine foldl_keepsOffers (fun s i => ?_) _ s
  split
  case isTrue h => exact retire_keepsOffers c (Window.live_of_retirableOf h)
  case isFalse => exact .refl s

theorem withdrawOffersOf_keepsOffers (n : Master) (s : State) : KeepsOffers s (withdrawOffersOf n s) := by
  refine foldl_keepsOffers (fun s i => ?_) _ s
  split
  case isTrue h =>
    exact reactivate_withdrawOffer_keepsOffers (Window.live_of_retirableOf (Bool.and_eq_true_iff.1 h).1)
  case isFalse => exact .refl s

/-- After the offers to a master have been declined, none names it. -/
theorem declineOffersTo_offeredTo (n : Master) (s : State) (j : Slot) :
    ((declineOffersTo n s).window j).offeredTo n = false := by
  refine foldl_allSlots_window (R := fun _ v => v.offeredTo n = false) (fun s i => ?own) (fun s i j h => ?other) s j
  case own =>
    split
    case isTrue h =>
      obtain ⟨o, ho, -⟩ := Window.offeredTo_iff.1 h
      simp [Option.isSome_of_mem ho, Window.offeredTo]
    case isFalse h => simpa using h
  case other => split <;> simp [h]

/-- Retiring the windows of a master leaves no offer of its own. -/
theorem retireWindowsOf_offer (c : RetireCause) (n : Master) (s : State) (j : Slot) :
    (s.window j).retirableOf n = true → ((retireWindowsOf c n s).window j).offer = none := by
  refine foldl_allSlots_window (R := fun w v => w.retirableOf n = true → v.offer = none) (fun s i h => ?own)
    (fun s i j h => ?other) s j
  case own =>
    rw [if_pos h, retire_window, if_pos rfl]
    split <;> rfl
  case other => split <;> simp [retire_window, h]

/-- Withdrawing the offers of a master leaves none of its own. -/
theorem withdrawOffersOf_offer (n : Master) (s : State) (j : Slot) :
    (s.window j).retirableOf n = true → ((withdrawOffersOf n s).window j).offer = none := by
  refine foldl_allSlots_window (R := fun w v => w.retirableOf n = true → v.offer = none) (fun s i h => ?own)
    (fun s i j h => ?other) s j
  case own =>
    rw [h, Bool.true_and]
    split
    case isTrue => simp
    case isFalse ho => simpa using ho
  case other => split <;> simp [h]

theorem disposeWindows_keepsOffers (n : Master) (s : State) : KeepsOffers s (disposeWindows n s) := by
  unfold disposeWindows
  split
  case h_1 => exact retireWindowsOf_keepsOffers ..
  case h_2 => exact withdrawOffersOf_keepsOffers ..

/-- Either disposition ends the offers of the master (R163). -/
theorem disposeWindows_offer {n : Master} {s : State} {j : Slot} (h : (s.window j).retirableOf n = true) :
    ((disposeWindows n s).window j).offer = none := by
  unfold disposeWindows
  split
  case h_1 => exact retireWindowsOf_offer _ n s j h
  case h_2 => exact withdrawOffersOf_offer n s j h

end Sys2Proof.Machine
end

section
/-! The completions of commands that keep the offers (R75, R77): a completion either leaves the state or writes a
mailbox after the command's effect, which takes place when every check passes. -/

namespace Sys2Proof.Machine

/-! ### Completions and checks -/

/-- A completion either leaves the state or finishes what the body comes to. -/
theorem completeCommand_cases (id : CmdId) (body : Master → Params → State → Completion) (s : State) :
    completeCommand id body s = s ∨ ∃ x, completeCommand id body s = finish x (body x.master x.params s) := by
  unfold completeCommand
  split
  case h_1 => exact .inl rfl
  case h_2 x _ =>
    split
    case isTrue => exact .inr ⟨x, rfl⟩
    case isFalse => exact .inl rfl

/-- A checked command comes to its effect, every check passing, or leaves the state. -/
theorem checked_cases (l : List (Bool × ResultCode)) (s : State) (c : Completion) :
    ((∀ x ∈ l, x.1 = true) ∧ checked l s c = c) ∨ (checked l s c).state = s := by
  cases h : firstFailure l with
  | none =>
    have pass := firstFailure_eq_none.1 h
    exact .inl ⟨pass, checked_of_pass pass⟩
  | some r => exact .inr (by rw [checked_of_failure h]; rfl)

theorem finish_keepsOffers (x : Execution) (c : Completion) : KeepsOffers c.state (finish x c) :=
  keepsOffers_of_tables (by simp) (by simp)

theorem completeCommand_keepsOffers {id : CmdId} {body : Master → Params → State → Completion} {s : State}
    (h : ∀ m p, KeepsOffers s (body m p s).state) : KeepsOffers s (completeCommand id body s) := by
  obtain e | ⟨x, e⟩ := completeCommand_cases id body s
  · rw [e]; exact .refl s
  · rw [e]; exact (h x.master x.params).trans (finish_keepsOffers ..)

theorem checked_keepsOffers {l : List (Bool × ResultCode)} {s : State} {c : Completion}
    (h : (∀ x ∈ l, x.1 = true) → KeepsOffers s c.state) : KeepsOffers s (checked l s c).state := by
  obtain ⟨pass, e⟩ | e := checked_cases l s c
  · rw [e]; exact h pass
  · rw [e]; exact .refl s

/-- A command whose effect is on one master record and does not make the master OFFLINE. -/
theorem checked_setMaster_keepsOffers {l : List (Bool × ResultCode)} {s : State} {n : Master} {r : MasterRecord}
    {code : ResultCode} {words : ResultWords} (h : r.state = .offline → (s.master n).state = .offline) :
    KeepsOffers s (checked l s { state := s.setMaster n r, code := code, words := words }).state :=
  checked_keepsOffers fun _ => keepsOffers_setMaster h

/-- A command that only reports. -/
theorem checked_report_keepsOffers {l : List (Bool × ResultCode)} {s : State} {code : ResultCode}
    {words : ResultWords} : KeepsOffers s (checked l s { state := s, code := code, words := words }).state :=
  checked_keepsOffers fun _ => .refl s

/-! ### The commands -/

/-- A command that passes its check of the handle names a live window. -/
theorem live_of_currentCheck {l : List (Bool × ResultCode)} {s : State} {h : Handle} (pass : ∀ x ∈ l, x.1 = true)
    (mem : (s.current h, .staleHandle) ∈ l) : (s.window h.slot).live = true :=
  Window.live_iff.2 (current_iff.1 (pass _ mem)).1

theorem extendBody_keepsOffers (m : Master) (p : Params) (s : State) : KeepsOffers s (extendBody m p s).state :=
  checked_keepsOffers fun _ => keepsOffers_setWindow (Window.evolves_of_fields rfl rfl rfl rfl)

theorem setMembersBody_keepsOffers (m : Master) (p : Params) (s : State) : KeepsOffers s (setMembersBody m p s).state :=
  checked_keepsOffers fun _ => keepsOffers_setWindow (Window.evolves_of_fields rfl rfl rfl rfl)

theorem releaseBody_keepsOffers (m : Master) (p : Params) (s : State) : KeepsOffers s (releaseBody m p s).state :=
  checked_keepsOffers fun pass =>
    retire_keepsOffers .release (live_of_currentCheck pass (by simp [releaseChecks]))

theorem revokeBody_keepsOffers (m : Master) (p : Params) (s : State) : KeepsOffers s (revokeBody m p s).state :=
  checked_keepsOffers fun pass =>
    retire_keepsOffers .revoke (live_of_currentCheck pass (by simp [revokeChecks]))

theorem withdrawBody_keepsOffers (m : Master) (p : Params) (s : State) : KeepsOffers s (withdrawBody m p s).state :=
  checked_keepsOffers fun pass =>
    reactivate_withdrawOffer_keepsOffers (live_of_currentCheck pass (by simp [withdrawChecks]))

theorem declineBody_keepsOffers (m : Master) (p : Params) (s : State) : KeepsOffers s (declineBody m p s).state :=
  checked_keepsOffers fun _ => declineOffer_keepsOffers ..

/-- A LAPSED window that RENEW brings back has no offer. -/
theorem renewBody_keepsOffers (m : Master) (p : Params) (s : State) : KeepsOffers s (renewBody m p s).state := by
  refine checked_keepsOffers fun _ => (keepsOffers_setWindow ?_).trans (removeNotice_keepsOffers ..)
  cases late : (s.window (handleOf p.p0).slot).state == .lapsed with
  | false => exact Window.evolves_of_fields rfl rfl rfl rfl
  | true =>
    intro marked
    have lapsed : (s.window (handleOf p.p0).slot).state = .lapsed := by simpa using late
    have none : (s.window (handleOf p.p0).slot).offer = none := by
      simpa [Window.OfferMarked, lapsed] using marked
    exact Window.evolves_of_no_offer (by simp [Window.live, lapsed]) none (by simp) rfl rfl marked

theorem findHeldBody_keepsOffers (m : Master) (p : Params) (s : State) : KeepsOffers s (findHeldBody m p s).state := by
  refine checked_keepsOffers fun _ => ?_
  split <;> exact .refl s

theorem clearFaultBody_keepsOffers (m : Master) (p : Params) (s : State) :
    KeepsOffers s (clearFaultBody m p s).state := by
  refine KeepsOffers.trans (keepsOffers_setMaster ?_) (removeNotice_keepsOffers ..)
  exact fun h => h

theorem takeNoticeBody_keepsOffers (m : Master) (p : Params) (s : State) :
    KeepsOffers s (takeNoticeBody m p s).state := by
  unfold takeNoticeBody
  split
  case h_1 => exact .refl s
  case h_2 => exact keepsOffers_setMaster fun h => h

theorem setTargetBody_keepsOffers (m : Master) (p : Params) (s : State) : KeepsOffers s (setTargetBody m p s).state :=
  checked_keepsOffers fun _ => keepsOffers_setTarget ..

theorem targetOnlineBody_keepsOffers (m : Master) (p : Params) (s : State) :
    KeepsOffers s (targetOnlineBody m p s).state :=
  checked_keepsOffers fun _ => (keepsOffers_setTarget ..).trans (removeNotice_keepsOffers ..)

theorem targetOfflineBody_keepsOffers (m : Master) (p : Params) (s : State) :
    KeepsOffers s (targetOfflineBody m p s).state :=
  checked_keepsOffers fun _ => (keepsOffers_setTarget ..).trans (answerDown_keepsOffers ..)

end Sys2Proof.Machine
end

section
/-! The rows that are no completions of a command and keep the offers: the ports, the resolver, the command unit, the
lease timer and the master reset lines. The parts of them that reach a window have lemmas of their own above. -/

namespace Sys2Proof.Machine

/-! ### The ports, the resolver and the command unit -/

theorem execRequestAcceptance_keepsOffers {m : Master} {r : Request} {s u : State}
    (h : execRequestAcceptance m r s = .next u) : KeepsOffers s u := by
  obtain rfl := Host.Outcome.next.inj h
  split
  case isTrue => exact keepsOffers_setPort ..
  case isFalse => exact .refl s

theorem execResolution_keepsOffers {s u : State} (h : execResolution s = .next u) : KeepsOffers s u := by
  obtain rfl := Host.Outcome.next.inj h
  split
  case h_1 => exact .refl s
  case h_2 m _ =>
    split
    case h_1 => exact .refl s
    case h_2 =>
      refine KeepsOffers.trans ?_ (takeAccess_keepsOffers m _ _)
      exact keepsOffers_of_tables (fun _ => rfl) fun _ => rfl

theorem execAdmission_keepsOffers {t : Target} {s u : State} (h : execAdmission t s = .next u) : KeepsOffers s u := by
  obtain rfl := Host.Outcome.next.inj h
  split
  case isFalse => exact .refl s
  case isTrue =>
    split
    case h_1 => exact .refl s
    case h_2 =>
      split
      case h_1 => exact .refl s
      case h_2 => exact (keepsOffers_setPort ..).trans (keepsOffers_setTarget ..)

theorem execAccessStart_keepsOffers {t : Target} {s u : State} (h : execAccessStart t s = .next u) :
    KeepsOffers s u := by
  obtain rfl := Host.Outcome.next.inj h
  split
  case isFalse => exact .refl s
  case isTrue =>
    split
    case h_1 => exact .refl s
    case h_2 => exact keepsOffers_setTarget ..

theorem execWaitCountEnd_keepsOffers {t : Target} {ready error : Bool} {data : Word} {s u : State}
    (h : execWaitCountEnd t ready error data s = .next u) : KeepsOffers s u := by
  obtain rfl := Host.Outcome.next.inj h
  split
  case isTrue => exact (keepsOffers_setTarget ..).trans (waitCountEnds_keepsOffers ..)
  case isFalse => exact .refl s

theorem execBeatEnd_keepsOffers {t : Target} {error : Bool} {data : Word} {s u : State}
    (h : execBeatEnd t error data s = .next u) : KeepsOffers s u := by
  obtain rfl := Host.Outcome.next.inj h
  split
  case isTrue => exact (keepsOffers_setTarget ..).trans (endBeat_keepsOffers ..)
  case isFalse => exact .refl s

theorem execRecoveryEnd_keepsOffers {t : Target} {s u : State} (h : execRecoveryEnd t s = .next u) :
    KeepsOffers s u := by
  obtain rfl := Host.Outcome.next.inj h
  split
  case isTrue => exact recoveryEnds_keepsOffers t s
  case isFalse => exact .refl s

theorem execResponseTimerExpiry_keepsOffers {t : Target} {s u : State} (h : execResponseTimerExpiry t s = .next u) :
    KeepsOffers s u := by
  obtain rfl := Host.Outcome.next.inj h
  split
  case isTrue => exact (keepsOffers_setTarget ..).trans (responseTimerExpires_keepsOffers ..)
  case isFalse => exact .refl s

theorem execParameterWrite_keepsOffers {m : Master} {s u : State} (h : execParameterWrite m s = .next u) :
    KeepsOffers s u := by
  obtain rfl := Host.Outcome.next.inj h
  split
  case h_1 => exact .refl s
  case h_2 r rest _ =>
    have popped := popAperture_keepsOffers m rest s
    split
    case h_1 => exact popped.trans (answer_keepsOffers ..)
    case h_2 => exact popped.trans (acknowledge_setMailbox_keepsOffers ..)
    case h_3 => exact .refl s
    case h_4 => exact .refl s

theorem execCommandSubmission_keepsOffers {m : Master} {s u : State} (h : execCommandSubmission m s = .next u) :
    KeepsOffers s u := by
  obtain rfl := Host.Outcome.next.inj h
  split
  case h_1 => exact .refl s
  case h_2 r rest _ =>
    have popped := popAperture_keepsOffers m rest s
    split
    case h_1 => exact popped.trans (answer_keepsOffers ..)
    case h_2 => exact popped.trans (submitCommand_keepsOffers ..)
    case h_3 => exact .refl s
    case h_4 => exact .refl s

theorem execApertureAccessTaking_keepsOffers {m : Master} {s u : State}
    (h : execApertureAccessTaking m s = .next u) : KeepsOffers s u := by
  obtain rfl := Host.Outcome.next.inj h
  split
  case h_1 => exact .refl s
  case h_2 r rest _ =>
    have popped := popAperture_keepsOffers m rest s
    split
    case h_1 => exact popped.trans (answer_keepsOffers ..)
    case h_2 => exact popped.trans (answer_keepsOffers ..)
    case h_3 => exact .refl s
    case h_4 => exact .refl s

theorem execEngineGrant_keepsOffers {s u : State} (h : execEngineGrant s = .next u) : KeepsOffers s u := by
  obtain rfl := Host.Outcome.next.inj h
  split
  case h_1 => exact .refl s
  case h_2 =>
    split
    case h_1 => exact .refl s
    case h_2 => exact keepsOffers_of_tables (fun _ => rfl) fun _ => rfl

theorem execBadCommand_keepsOffers {s u : State} (h : execBadCommand s = .next u) : KeepsOffers s u := by
  obtain rfl := Host.Outcome.next.inj h
  split
  case h_1 => exact .refl s
  case h_2 x _ =>
    split
    case isTrue => exact finish_keepsOffers x (refusal .badCommand s)
    case isFalse => exact .refl s

/-! ### Ticks -/

theorem execLeaseTick_keepsOffers {s u : State} (h : execLeaseTick s = .next u) : KeepsOffers s u := by
  obtain rfl := Host.Outcome.next.inj h
  split
  case isTrue => exact .refl s
  case isFalse => exact (keepsOffers_with_timer ..).trans (tableTick_keepsOffers _)

theorem execLeaseExpiry_keepsOffers {i : Slot} {s u : State} (h : execLeaseExpiry i s = .next u) :
    KeepsOffers s u := by
  obtain rfl := Host.Outcome.next.inj h
  split
  case isTrue due =>
    refine leaseCountdown_keepsOffers (Window.live_iff.2 fun hf => ?_)
    simp [leaseDue, hf] at due
  case isFalse => exact .refl s

theorem execGraceExpiry_keepsOffers {i : Slot} {s u : State} (h : execGraceExpiry i s = .next u) :
    KeepsOffers s u := by
  obtain rfl := Host.Outcome.next.inj h
  split
  case isTrue due =>
    refine graceCountdown_keepsOffers (Window.live_iff.2 fun hf => ?_)
    simp [hf] at due
  case isFalse => exact .refl s

theorem execOfferExpiry_keepsOffers {i : Slot} {s u : State} (h : execOfferExpiry i s = .next u) :
    KeepsOffers s u := by
  obtain rfl := Host.Outcome.next.inj h
  split_ifs with due
  · refine offerCountdown_keepsOffers (Window.live_iff.2 fun hf => ?_)
    simp [hf] at due
  · exact .refl s

/-! ### Master resets -/

theorem resetMailboxOf_keepsOffers (n : Master) (s : State) : KeepsOffers s (resetMailboxOf n s) := by
  unfold resetMailboxOf
  dsimp only
  split
  case isTrue => exact keepsOffers_of_tables (fun _ => rfl) fun _ => rfl
  case isFalse => exact keepsOffers_setMailbox ..

/-- The state in which a master reset comes to the windows: port, mailbox, notices and the offers to the master done
with. -/
def masterUnwound (n : Master) (s : State) : State :=
  declineOffersTo n (resetNotices n (resetMailboxOf n (s.setPort n (s.port n).assertReset)))

theorem masterUnwound_keepsOffers (n : Master) (s : State) : KeepsOffers s (masterUnwound n s) := by
  refine KeepsOffers.trans ?_ (declineOffersTo_keepsOffers n _)
  refine ((keepsOffers_setPort ..).trans (resetMailboxOf_keepsOffers n _)).trans (keepsOffers_setMaster ?_)
  exact fun h => h

theorem execMasterReset_of_deasserted {n : Master} {s : State} (h : (s.port n).lineAsserted = false) :
    execMasterReset n s = .next (disposeWindows n (masterUnwound n s)) := by
  simp [execMasterReset, masterUnwound, h]

theorem execMasterReset_keepsOffers {n : Master} {s u : State} (h : execMasterReset n s = .next u) :
    KeepsOffers s u := by
  obtain rfl := Host.Outcome.next.inj h
  split
  case isTrue => exact .refl s
  case isFalse => exact (masterUnwound_keepsOffers n s).trans (disposeWindows_keepsOffers n _)

theorem execMasterResetDeassertion_keepsOffers {n : Master} {s u : State}
    (h : execMasterResetDeassertion n s = .next u) : KeepsOffers s u := by
  obtain rfl := Host.Outcome.next.inj h
  split
  case isTrue => exact keepsOffers_setPort ..
  case isFalse => exact .refl s

end Sys2Proof.Machine
end

section
/-! The offers across a whole step (R131): what a step may do to offers, layers, holders and OFFLINE masters, by the
command at the front of the queue; the five commands that do more than keep the offers; the resets; and the
obligation. -/

namespace Sys2Proof.Machine

open Sys2Proof.Safety

/-! ### The change of one step -/

/-- What a step with the given command at the front of the queue may do to offers, layers, holders and OFFLINE masters
(R131). -/
structure OfferChange (front : Option Instr) (s u : State) : Prop where
  law : OfferLaw u
  sets : ∀ i, (s.window i).offer = none → (u.window i).offer ≠ none → front = some .offer
  moves : ∀ i, (s.window i).live = true → (u.window i).live = true → ¬ front = some .deviceReset →
    (u.window i).layer = (s.window i).layer ∧
    ((u.window i).holder ≠ (s.window i).holder → front = some .accept ∧ (u.window i).offer = none)
  detaches : ∀ m, (s.master m).state ≠ .offline → (u.master m).state = .offline →
    front = some .detach ∧ ∀ i, ∀ o ∈ (u.window i).offer, o.recipient ≠ m

section
variable {front : Option Instr} {s t u : State}

/-- Windows that evolve, with the rest of the change given for the masters. -/
theorem offerChange_of_evolves (law : OfferLaw u) (hs : OfferLaw s) (hw : ∀ i, (s.window i).Evolves (u.window i))
    (detaches : ∀ m, (s.master m).state ≠ .offline → (u.master m).state = .offline →
      front = some .detach ∧ ∀ i, ∀ o ∈ (u.window i).offer, o.recipient ≠ m) : OfferChange front s u := by
  refine ⟨law, fun i none some => ?_, fun i _ live _ => ?_, detaches⟩
  · obtain ⟨o', ho'⟩ := Option.ne_none_iff_exists'.1 some
    obtain ⟨o, ho, -⟩ := (hw i (hs i).1).offer o' ho'
    exact absurd ho (by simp [none])
  · obtain ⟨-, layer, holder⟩ := (hw i (hs i).1).live live
    exact ⟨layer, fun h => absurd holder h⟩

theorem KeepsOffers.offerChange (h : KeepsOffers s u) (hs : OfferLaw s) : OfferChange front s u :=
  offerChange_of_evolves (h.offerLaw hs) hs h.window fun m hm hm' => absurd (h.offline m hm') hm

/-- A later change of anything but windows and master states. -/
theorem OfferChange.of_tables (h : OfferChange front s t) (hw : ∀ i, u.window i = t.window i)
    (hm : ∀ m, (u.master m).state = (t.master m).state) : OfferChange front s u := by
  refine ⟨(keepsOffers_of_tables hw hm).offerLaw h.law, ?_, ?_, ?_⟩
  · simpa only [hw] using h.sets
  · simpa only [hw] using h.moves
  · simpa only [hw, hm] using h.detaches

/-- A change of one window: what the new window has to meet. -/
theorem offerChange_of_slot {i : Slot} {v : Window} (hs : OfferLaw s)
    (hw : ∀ j, u.window j = if j = i then v else s.window j) (hm : ∀ m, (u.master m).state = (s.master m).state)
    (marked : v.OfferMarked)
    (standing : ∀ o ∈ v.offer, o.recipient ≠ v.holder ∧ (s.master o.recipient).state ≠ .offline ∧ v.layer = .priv)
    (sets : v.offer ≠ none → front = some .offer)
    (moves : (s.window i).live = true → v.layer = (s.window i).layer ∧
      (v.holder ≠ (s.window i).holder → front = some .accept ∧ v.offer = none)) : OfferChange front s u := by
  have own : u.window i = v := (hw i).trans (if_pos rfl)
  have other : ∀ j, j ≠ i → u.window j = s.window j := fun j e => (hw j).trans (if_neg e)
  refine ⟨offerLaw_iff.2 fun j => ?law, fun j none some => ?sets, fun j live _ _ => ?moves,
    fun m h h' => absurd (hm m ▸ h') h⟩ <;> obtain rfl | e := eq_or_ne j i
  case law.inl => simpa only [own, hm] using ⟨marked, standing⟩
  case law.inr => simpa only [other j e, hm] using offerLaw_iff.1 hs j
  case sets.inl => exact sets (own ▸ some)
  case sets.inr => exact absurd (other j e ▸ none) some
  case moves.inl => simpa only [own] using moves live
  case moves.inr => simp [other j e]

theorem completeCommand_offerChange {id : CmdId} {body : Master → Params → State → Completion} (hs : OfferLaw s)
    (h : ∀ m p, OfferChange front s (body m p s).state) : OfferChange front s (completeCommand id body s) := by
  obtain e | ⟨x, e⟩ := completeCommand_cases id body s
  · rw [e]; exact (KeepsOffers.refl s).offerChange hs
  · rw [e]; exact (h x.master x.params).of_tables (by simp) (by simp)

theorem checked_offerChange {l : List (Bool × ResultCode)} {c : Completion} (hs : OfferLaw s)
    (h : (∀ x ∈ l, x.1 = true) → OfferChange front s c.state) : OfferChange front s (checked l s c).state := by
  obtain ⟨pass, e⟩ | e := checked_cases l s c
  · rw [e]; exact h pass
  · rw [e]; exact (KeepsOffers.refl s).offerChange hs

/-! ### The five commands that do more -/

/-- A claim takes a FREE slot and makes no offer. -/
theorem claimSlot_offerChange (layer : Layer) (holder : Master) (members : Option (BitVec 6)) (p : Params)
    (hs : OfferLaw s) : OfferChange front s (claimSlot layer holder members p s).state := by
  unfold claimSlot
  split
  case h_1 => exact (KeepsOffers.refl s).offerChange hs
  case h_2 i found =>
    have free : (s.window i).state = .free := by simpa using List.find?_some found
    exact offerChange_of_slot hs (fun j => s.window_setWindow i j _) (fun _ => rfl)
      (Window.offerMarked_of_none rfl (by simp [claimedWindow])) (by simp [claimedWindow]) (fun h => absurd rfl h)
      fun live => absurd free (Window.live_iff.1 live)

theorem claimBody_offerChange (hs : OfferLaw s) (m : Master) (p : Params) :
    OfferChange front s (claimBody m p s).state :=
  checked_offerChange hs fun _ => claimSlot_offerChange _ _ _ p hs

theorem claimCommonBody_offerChange (hs : OfferLaw s) (m : Master) (p : Params) :
    OfferChange front s (claimCommonBody m p s).state :=
  checked_offerChange hs fun _ => claimSlot_offerChange _ _ _ p hs

/-- OFFER names another master than the holder, which is not OFFLINE, and takes no common window (R121, R122). -/
theorem offerBody_offerChange (hs : OfferLaw s) (m : Master) (p : Params) :
    OfferChange (some .offer) s (offerBody m p s).state := by
  refine checked_offerChange hs fun pass => ?_
  obtain ⟨-, -, holder, -, layer, self, online⟩ :
      offerInRange p = true ∧ s.current (handleOf p.p0) = true ∧ (s.window (handleOf p.p0).slot).holder = m ∧
        (s.window (handleOf p.p0).slot).state = .active ∧ (s.window (handleOf p.p0).slot).layer = .priv ∧
        recipientParam p ≠ m ∧ (s.master (recipientParam p)).state ≠ .offline := by
    simpa [offerChecks] using pass
  refine offerChange_of_slot hs (fun j => s.window_setWindow (handleOf p.p0).slot j _) (by simp) ?marked ?standing
    (fun _ => rfl) (fun _ => ⟨rfl, fun h => absurd rfl h⟩)
  case marked => simp [Window.OfferMarked]
  case standing => simp [holder, self, online, layer]

/-- ACCEPT clears the offer in the same change as the holder moves (R126). -/
theorem acceptBody_offerChange (hs : OfferLaw s) (m : Master) (p : Params) :
    OfferChange (some .accept) s (acceptBody m p s).state :=
  checked_offerChange hs fun _ =>
    offerChange_of_slot hs (fun j => s.window_setWindow (handleOf p.p0).slot j _) (by simp)
      (Window.offerMarked_of_none rfl (by simp [acceptedWindow])) (by simp [acceptedWindow]) (fun h => absurd rfl h)
      fun _ => ⟨rfl, fun _ => ⟨rfl, rfl⟩⟩

theorem detachMailbox_keepsOffers (n : Master) (s : State) : KeepsOffers s (detachMailbox n s) := by
  unfold detachMailbox
  split
  case isTrue => exact keepsOffers_setMailbox ..
  case isFalse => exact .refl s

/-- DETACH begins with the record of the master (R159 steps 1 and 2). -/
def madeOffline (n : Master) (s : State) : State :=
  s.setMaster n { s.master n with state := .offline, notices := [] }

theorem madeOffline_master_state (n m : Master) (s : State) :
    ((madeOffline n s).master m).state = if m = n then .offline else (s.master m).state := by
  unfold madeOffline
  rw [State.master_setMaster]
  split <;> rfl

/-- DETACH goes on with the offers to the master, and what follows keeps the others. -/
theorem detachEffect_keepsOffers (n : Master) (s : State) :
    KeepsOffers (declineOffersTo n (madeOffline n s)) (detachEffect n s) :=
  (retireWindowsOf_keepsOffers .detach n _).trans (detachMailbox_keepsOffers n _)

theorem detachEffect_keepsOffers_of_madeOffline (n : Master) (s : State) :
    KeepsOffers (madeOffline n s) (detachEffect n s) :=
  (declineOffersTo_keepsOffers n _).trans (detachEffect_keepsOffers n s)

theorem detachEffect_evolves (n : Master) (s : State) (i : Slot) :
    (s.window i).Evolves ((detachEffect n s).window i) := (detachEffect_keepsOffers_of_madeOffline n s).window i

/-- DETACH makes no other master OFFLINE. -/
theorem offline_of_detachEffect {n m : Master} (hn : m ≠ n)
    (h : ((detachEffect n s).master m).state = .offline) : (s.master m).state = .offline := by
  have off := (detachEffect_keepsOffers_of_madeOffline n s).offline m h
  rwa [madeOffline_master_state, if_neg hn] at off

/-- No offer naming the master stands after its DETACH. -/
theorem recipient_ne_of_detachEffect (hs : OfferLaw s) {n : Master} {i : Slot} {o' : Offer}
    (ho' : o' ∈ ((detachEffect n s).window i).offer) : o'.recipient ≠ n := by
  have declined := (declineOffersTo_keepsOffers n (madeOffline n s)).window i (hs i).1
  obtain ⟨o, ho, e⟩ := ((detachEffect_keepsOffers n s).window i declined.marked).offer o' ho'
  intro en
  have named := Window.offeredTo_iff.2 ⟨o, ho, e.symm.trans en⟩
  rw [declineOffersTo_offeredTo] at named
  cases named

/-- DETACH ends every offer naming the master that it makes OFFLINE (R159). -/
theorem detachBody_offerChange (hs : OfferLaw s) (m : Master) (p : Params) :
    OfferChange (some .detach) s (detachBody m p s).state := by
  refine checked_offerChange hs fun _ => ?_
  dsimp only
  have evolves := detachEffect_evolves (masterParam p.p0) s
  refine offerChange_of_evolves (offerLaw_of_evolves hs evolves fun i o ho => ?recipient) hs evolves
    fun m online offline => ⟨rfl, fun i o ho => ?named⟩
  case recipient => exact offline_of_detachEffect (recipient_ne_of_detachEffect hs ho)
  case named =>
    have em : m = masterParam p.p0 := by_contra fun h => online (offline_of_detachEffect h offline)
    exact em ▸ recipient_ne_of_detachEffect hs ho

/-! ### Resets -/

theorem resetWindows_get (i : Slot) : resetWindows[i] = if i = 0 then resetWindow else freeWindow 0#4 := by
  simp only [resetWindows, Fin.getElem_fin, Vector.getElem_set, Vector.getElem_replicate, Fin.ext_iff, Fin.val_zero,
    eq_comm]

theorem resetWindows_offer (i : Slot) : resetWindows[i].offer = none ∧ resetWindows[i].state ≠ .offered := by
  rw [resetWindows_get]
  split
  case isTrue => exact ⟨rfl, by simp [resetWindow]⟩
  case isFalse => exact ⟨rfl, by simp [freeWindow]⟩

theorem resetMasters_state : ∀ m : Master, resetMasters[m].state = .online := by decide

theorem assertDeviceReset_offer (s : State) (i : Slot) : ((assertDeviceReset s).window i).offer = none :=
  (resetWindows_offer i).1

/-- A device reset starts over: every master ONLINE, and no offer (R22, R154). -/
theorem assertDeviceReset_offerChange (s : State) : OfferChange (some .deviceReset) s (assertDeviceReset s) := by
  refine ⟨offerLaw_iff.2 fun i => ⟨?_, ?_⟩, fun i _ h => ?_, fun _ _ _ h => absurd rfl h, fun m _ h => ?_⟩
  · exact Window.offerMarked_of_none (assertDeviceReset_offer s i) (resetWindows_offer i).2
  · simp [assertDeviceReset_offer]
  · exact absurd (assertDeviceReset_offer s i) h
  · exact absurd ((resetMasters_state m).symm.trans h) (by decide)

/-- A master reset leaves no offer of the master or to it (R163). -/
theorem execMasterReset_offer {n : Master} (hs : OfferLaw s) (hline : (s.port n).lineAsserted = false)
    (h : execMasterReset n s = .next u) {i : Slot}
    (party : (u.window i).holder = n ∨ ∃ o ∈ (s.window i).offer, o.recipient = n) : (u.window i).offer = none := by
  rw [execMasterReset_of_deasserted hline] at h
  obtain rfl := Host.Outcome.next.inj h
  have unwound := (masterUnwound_keepsOffers n s).offerLaw hs
  obtain ⟨marked, standing⟩ := offerLaw_iff.1 unwound i
  have disposed := (disposeWindows_keepsOffers n (masterUnwound n s)).window i marked
  by_contra some
  obtain ⟨o'', ho''⟩ := Option.ne_none_iff_exists'.1 some
  obtain ⟨o', ho', -⟩ := disposed.offer o'' ho''
  obtain ⟨-, -, holder⟩ := disposed.live (disposed.marked.live_of_mem ho'')
  obtain hn | ⟨o, ho, en⟩ := party
  · have retirable : ((masterUnwound n s).window i).retirableOf n = true :=
      Window.retirableOf_of_offered (standing o' ho').2.2 (holder.symm.trans hn) (marked.state_of_mem ho')
    exact some (disposeWindows_offer retirable)
  · obtain ⟨o₁, ho₁, e⟩ := ((masterUnwound_keepsOffers n s).window i (hs i).1).offer o' ho'
    have same : o₁ = o := Option.mem_unique ho₁ ho
    have named := Window.offeredTo_iff.2 ⟨o', ho', (e.trans (congrArg _ same)).trans en⟩
    rw [masterUnwound, declineOffersTo_offeredTo] at named
    cases named

/-- ATTACH reaches no window (R162). -/
theorem execAttach_window (h : execAttach s = .next u) (i : Slot) : u.window i = s.window i := by
  obtain rfl := Host.Outcome.next.inj h
  obtain e | ⟨x, e⟩ := completeCommand_cases .attach attachBody s
  · rw [e]
  · rw [e, finish_window]
    obtain ⟨-, e⟩ | e := checked_cases (attachChecks x.master x.params s) s _
    · exact congrArg (fun c : Completion => c.state.window i) e
    · exact congrArg (fun t : State => t.window i) e

/-! ### Every step -/

/-- The completions of five commands and a device reset are changes of their own; every other row keeps the offers. -/
theorem exec_offerChange {c : Instr} (hs : OfferLaw s) (h : exec c s = .next u) : OfferChange (some c) s u := by
  have keeps (h : KeepsOffers s u) : OfferChange (some c) s u := h.offerChange hs
  cases c with
  | requestAcceptance => exact keeps (execRequestAcceptance_keepsOffers h)
  | resolution => exact keeps (execResolution_keepsOffers h)
  | admission => exact keeps (execAdmission_keepsOffers h)
  | accessStart => exact keeps (execAccessStart_keepsOffers h)
  | waitCountEnd => exact keeps (execWaitCountEnd_keepsOffers h)
  | beatEnd => exact keeps (execBeatEnd_keepsOffers h)
  | recoveryEnd => exact keeps (execRecoveryEnd_keepsOffers h)
  | responseTimerExpiry => exact keeps (execResponseTimerExpiry_keepsOffers h)
  | responseReturn => cases h; exact keeps (keepsOffers_setPort ..)
  | parameterWrite => exact keeps (execParameterWrite_keepsOffers h)
  | engineGrant => exact keeps (execEngineGrant_keepsOffers h)
  | badCommand => exact keeps (execBadCommand_keepsOffers h)
  | claim => cases h; exact completeCommand_offerChange hs (claimBody_offerChange hs)
  | claimCommon => cases h; exact completeCommand_offerChange hs (claimCommonBody_offerChange hs)
  | extend => cases h; exact keeps (completeCommand_keepsOffers fun m p => extendBody_keepsOffers m p s)
  | release => cases h; exact keeps (completeCommand_keepsOffers fun m p => releaseBody_keepsOffers m p s)
  | revoke => cases h; exact keeps (completeCommand_keepsOffers fun m p => revokeBody_keepsOffers m p s)
  | setMembers => cases h; exact keeps (completeCommand_keepsOffers fun m p => setMembersBody_keepsOffers m p s)
  | query => cases h; exact keeps (completeCommand_keepsOffers fun _ _ => checked_report_keepsOffers)
  | queryAddress => cases h; exact keeps (completeCommand_keepsOffers fun _ _ => checked_report_keepsOffers)
  | findHeld => cases h; exact keeps (completeCommand_keepsOffers fun m p => findHeldBody_keepsOffers m p s)
  | renew => cases h; exact keeps (completeCommand_keepsOffers fun m p => renewBody_keepsOffers m p s)
  | setLeaseClock =>
    cases h
    exact keeps (completeCommand_keepsOffers fun _ _ => checked_keepsOffers fun _ => keepsOffers_with_timer ..)
  | offer => cases h; exact completeCommand_offerChange hs (offerBody_offerChange hs)
  | withdraw => cases h; exact keeps (completeCommand_keepsOffers fun m p => withdrawBody_keepsOffers m p s)
  | accept => cases h; exact completeCommand_offerChange hs (acceptBody_offerChange hs)
  | decline => cases h; exact keeps (completeCommand_keepsOffers fun m p => declineBody_keepsOffers m p s)
  | readFault => cases h; exact keeps (completeCommand_keepsOffers fun _ _ => .refl s)
  | clearFault => cases h; exact keeps (completeCommand_keepsOffers fun m p => clearFaultBody_keepsOffers m p s)
  | releaseHold =>
    cases h; exact keeps (completeCommand_keepsOffers fun _ _ => checked_setMaster_keepsOffers (by simp))
  | takeNotice => cases h; exact keeps (completeCommand_keepsOffers fun m p => takeNoticeBody_keepsOffers m p s)
  | setNoticeOrder =>
    cases h; exact keeps (completeCommand_keepsOffers fun _ _ => checked_setMaster_keepsOffers (by simp))
  | setNoticeEnable =>
    cases h; exact keeps (completeCommand_keepsOffers fun _ _ => checked_setMaster_keepsOffers (by simp))
  | setMaster =>
    cases h; exact keeps (completeCommand_keepsOffers fun _ _ => checked_setMaster_keepsOffers (by simp))
  | queryMaster => cases h; exact keeps (completeCommand_keepsOffers fun _ _ => checked_report_keepsOffers)
  | detach => cases h; exact completeCommand_offerChange hs (detachBody_offerChange hs)
  | attach =>
    cases h; exact keeps (completeCommand_keepsOffers fun _ _ => checked_setMaster_keepsOffers (by simp))
  | setTarget => cases h; exact keeps (completeCommand_keepsOffers fun m p => setTargetBody_keepsOffers m p s)
  | targetOnline => cases h; exact keeps (completeCommand_keepsOffers fun m p => targetOnlineBody_keepsOffers m p s)
  | targetOffline => cases h; exact keeps (completeCommand_keepsOffers fun m p => targetOfflineBody_keepsOffers m p s)
  | queryTarget => cases h; exact keeps (completeCommand_keepsOffers fun _ _ => checked_report_keepsOffers)
  | leaseTick => exact keeps (execLeaseTick_keepsOffers h)
  | leaseExpiry => exact keeps (execLeaseExpiry_keepsOffers h)
  | graceExpiry => exact keeps (execGraceExpiry_keepsOffers h)
  | offerExpiry => exact keeps (execOfferExpiry_keepsOffers h)
  | masterReset => exact keeps (execMasterReset_keepsOffers h)
  | masterResetDeassertion => exact keeps (execMasterResetDeassertion_keepsOffers h)
  | deviceReset => cases h; exact assertDeviceReset_offerChange s
  | deviceResetDeassertion => cases h; exact keeps (keepsOffers_with_drst s false)
  | commandSubmission => exact keeps (execCommandSubmission_keepsOffers h)
  | apertureAccessTaking => exact keeps (execApertureAccessTaking_keepsOffers h)

/-- A step is a fabric cycle or the row at the front of the queue. -/
theorem step_cases (h : step s = .next u) :
    (s.pending = [] ∧ u = fabricCycle s) ∨
      ∃ c rest, s.pending = c :: rest ∧ exec c { s with pending := rest } = .next u := by
  unfold step at h
  split at h
  case h_1 e => exact .inl ⟨e, (Host.Outcome.next.inj h).symm⟩
  case h_2 c rest e => exact .inr ⟨c, rest, e, h⟩

/-- The row at the front runs on the queue's rest. -/
theorem exec_of_front {c : Instr} (h : step s = .next u) (hf : s.pending.head? = some c) :
    ∃ rest, exec c { s with pending := rest } = .next u := by
  obtain ⟨e, -⟩ | ⟨c', rest, e, hc⟩ := step_cases h
  · simp [e] at hf
  · obtain rfl : c' = c := by simpa [e] using hf
    exact ⟨rest, hc⟩

theorem step_offerChange (hs : OfferLaw s) (h : step s = .next u) : OfferChange s.pending.head? s u := by
  obtain ⟨e, rfl⟩ | ⟨c, rest, e, hc⟩ := step_cases h
  · exact (fabricCycle_keepsOffers s).offerChange hs
  · have change : OfferChange (some c) { s with pending := rest } u := exec_offerChange hs hc
    rw [e]
    exact ⟨change.law, change.sets, change.moves, change.detaches⟩

end

/-! ### The obligation -/

/-- Settles O50: the change of a step by its front command, and the windows after ATTACH, a device reset and a master
reset. -/
theorem offerLawKeptByEveryStep : Obligations.OfferLawKeptByEveryStep := by
  intro s u hs h front
  obtain ⟨law, sets, moves, detaches⟩ := step_offerChange hs h
  refine ⟨law, sets, moves, detaches, fun hf i => ?attach, fun hf i => ?deviceReset,
    fun n hf hline i party => ?masterReset⟩
  case attach =>
    obtain ⟨rest, hc⟩ := exec_of_front h hf
    exact congrArg Window.offer (execAttach_window hc i)
  case deviceReset =>
    obtain ⟨rest, hc⟩ := exec_of_front h hf
    obtain rfl := Host.Outcome.next.inj hc
    exact assertDeviceReset_offer _ i
  case masterReset =>
    obtain ⟨rest, hc⟩ := exec_of_front h hf
    exact execMasterReset_offer (s := { s with pending := rest }) hs hline hc party

end Sys2Proof.Machine
end

section
/-! The notice sets (R146): the order every set is held in allows one notice of a kind and key; raising, removing and
the shared operations keep it, at the ports, in the countdowns of a tick and in a visit of every slot. -/

namespace Sys2Proof.Machine

open Sys2Proof.Safety

/-! ### One set -/

/-- Equal ranks are equal kinds and keys. -/
theorem Notice.rank_eq_iff {a b : Notice} : a.rank = b.rank ↔ a.kind = b.kind ∧ a.key = b.key := noticeRank_inj

/-- A set in its order holds one notice of a kind and key. -/
theorem RisingRanks.eq_of_kind_key {l : List Notice} (hl : RisingRanks l) {a b : Notice} (ha : a ∈ l) (hb : b ∈ l)
    (hk : a.kind = b.kind) (hi : a.key = b.key) : a = b := by
  have distinct : (l.map Notice.rank).Nodup := List.pairwise_map.2 (hl.imp fun h => h.ne)
  exact List.inj_on_of_nodup_map distinct ha hb (Notice.rank_eq_iff.2 ⟨hk, hi⟩)

/-- Raising enters no other notice, in whatever order the list is. -/
theorem eq_or_mem_of_mem_insertNotice {n x : Notice} {l : List Notice} (h : x ∈ insertNotice n l) : x = n ∨ x ∈ l := by
  induction l with
  | nil => simpa [insertNotice] using h
  | cons y ys ih =>
    unfold insertNotice at h
    split_ifs at h
    · simpa using h
    · exact (List.mem_cons.1 h).imp_right (List.mem_cons_of_mem y)
    · obtain rfl | h := List.mem_cons.1 h
      · exact .inr List.mem_cons_self
      · exact (ih h).imp_right (List.mem_cons_of_mem y)

/-! ### The sets of a state -/

section
variable {s u : State}

/-- A change that reaches no master record. -/
theorem noticesUnique_of_masters (hs : NoticesUnique s) (h : ∀ m, u.master m = s.master m) : NoticesUnique u :=
  fun m => h m ▸ hs m

/-- A change of one master record that leaves its set in order. -/
theorem setMaster_noticesUnique (hs : NoticesUnique s) {m : Master} {r : MasterRecord} (hr : RisingRanks r.notices) :
    NoticesUnique (s.setMaster m r) := by
  intro j
  rw [State.master_setMaster]
  split
  case isTrue => exact hr
  case isFalse => exact hs j

/-- A change of other fields of a master record. -/
theorem setMaster_noticesUnique_of_notices (hs : NoticesUnique s) {m : Master} {r : MasterRecord}
    (h : r.notices = (s.master m).notices) : NoticesUnique (s.setMaster m r) :=
  setMaster_noticesUnique hs (h ▸ hs m)

/-- A change of one master record that empties its set. -/
theorem setMaster_noticesUnique_of_nil (hs : NoticesUnique s) {m : Master} {r : MasterRecord} (h : r.notices = []) :
    NoticesUnique (s.setMaster m r) := by
  refine setMaster_noticesUnique hs ?_
  rw [h]
  exact .nil

theorem setWindow_noticesUnique (hs : NoticesUnique s) {i : Slot} {w : Window} : NoticesUnique (s.setWindow i w) :=
  noticesUnique_of_masters hs fun _ => rfl

theorem setPort_noticesUnique (hs : NoticesUnique s) {m : Master} {p : MasterPort} : NoticesUnique (s.setPort m p) :=
  noticesUnique_of_masters hs fun _ => rfl

theorem setMailbox_noticesUnique (hs : NoticesUnique s) {m : Master} {b : Mailbox} :
    NoticesUnique (s.setMailbox m b) := noticesUnique_of_masters hs fun _ => rfl

theorem setTarget_noticesUnique (hs : NoticesUnique s) {t : Target} {p : TargetPort} :
    NoticesUnique (s.setTarget t p) := noticesUnique_of_masters hs fun _ => rfl

theorem with_timer_noticesUnique (hs : NoticesUnique s) {x : LeaseTimer} : NoticesUnique { s with timer := x } :=
  noticesUnique_of_masters hs fun _ => rfl

theorem raiseNotice_noticesUnique (hs : NoticesUnique s) {m : Master} {n : Notice} :
    NoticesUnique (raiseNotice m n s) := setMaster_noticesUnique hs (insertNotice_rising (hs m))

theorem removeNotice_noticesUnique (hs : NoticesUnique s) {m : Master} {k : NoticeKind} {i : Slot} :
    NoticesUnique (removeNotice m k i s) := setMaster_noticesUnique hs (dropNotice_rising (hs m))

theorem enterReport_noticesUnique (hs : NoticesUnique s) {m : Master} {r : FaultReport} :
    NoticesUnique (enterReport m r s) := setMaster_noticesUnique hs (insertNotice_rising (hs m))

/-- A sequence of changes. -/
theorem foldl_noticesUnique {α : Type} {f : State → α → State} (hf : ∀ s a, NoticesUnique s → NoticesUnique (f s a))
    (l : List α) (hs : NoticesUnique s) : NoticesUnique (l.foldl f s) :=
  List.foldlRecOn l f hs fun t ht a _ => hf t a ht

/-- R144 for the set of a master. -/
theorem mem_raiseNotice_iff (hs : NoticesUnique s) {m : Master} {n x : Notice} :
    x ∈ ((raiseNotice m n s).master m).notices ↔
      x = n ∨ (x ∈ (s.master m).notices ∧ ¬(x.kind = n.kind ∧ x.key = n.key)) := by
  rw [raiseNotice_master_notices, if_pos rfl, mem_insertNotice (hs m), ne_eq, Notice.rank_eq_iff]

/-- R145 for the set of a master. -/
theorem mem_removeNotice_iff {m : Master} {k : NoticeKind} {i : Slot} {x : Notice} :
    x ∈ ((removeNotice m k i s).master m).notices ↔ x ∈ (s.master m).notices ∧ ¬(x.kind = k ∧ x.key = i) := by
  rw [removeNotice_master_notices, if_pos rfl, mem_dropNotice]

/-! ### Answers and the end of an access -/

theorem answer_noticesUnique (hs : NoticesUnique s) {m : Master} {r : Response} {report : Option FaultReport} :
    NoticesUnique (answer m r report s) := by
  unfold answer
  split
  case isTrue => exact setPort_noticesUnique hs
  case isFalse =>
    cases report with
    | none => exact setPort_noticesUnique hs
    | some f => exact enterReport_noticesUnique (setPort_noticesUnique hs)

theorem freeSlot_noticesUnique (hs : NoticesUnique s) {i : Slot} {c : RetireNotice} :
    NoticesUnique (freeSlot i c s) := by
  unfold freeSlot
  dsimp only
  split
  case isTrue => exact setWindow_noticesUnique hs
  case isFalse => exact raiseNotice_noticesUnique (setWindow_noticesUnique hs)

theorem countOut_noticesUnique (hs : NoticesUnique s) {i : Slot} : NoticesUnique (countOut i s) := by
  unfold countOut
  dsimp only
  split
  case isTrue => exact freeSlot_noticesUnique hs
  case isFalse => exact setWindow_noticesUnique hs

theorem endFaulted_noticesUnique (hs : NoticesUnique s) {k : FaultKind} {a : Resolved} :
    NoticesUnique (endFaulted k a s) := answer_noticesUnique (countOut_noticesUnique hs)

theorem endOk_noticesUnique (hs : NoticesUnique s) {a : Resolved} {d : ReadData} : NoticesUnique (endOk a d s) :=
  answer_noticesUnique (countOut_noticesUnique hs)

theorem answerDown_noticesUnique (hs : NoticesUnique s) {t : Target} : NoticesUnique (answerDown t s) := by
  refine foldl_noticesUnique (fun _ _ h => endFaulted_noticesUnique h) _ ?unlisted
  exact foldl_noticesUnique (fun _ _ h => setPort_noticesUnique h) allMasters (setTarget_noticesUnique hs)

/-! ### The target ports -/

theorem endBeat_noticesUnique (hs : NoticesUnique s) {t : Target} {error : Bool} {data : Word} :
    NoticesUnique (endBeat t error data s) := by
  unfold endBeat
  split
  case h_1 =>
    split
    case isTrue => exact endFaulted_noticesUnique (setTarget_noticesUnique hs)
    case isFalse =>
      dsimp only
      split
      case isTrue => exact setTarget_noticesUnique hs
      case isFalse => exact endOk_noticesUnique (setTarget_noticesUnique hs)
  case h_2 => exact hs

theorem waitCountEnds_noticesUnique (hs : NoticesUnique s) {t : Target} : NoticesUnique (waitCountEnds t s) := by
  unfold waitCountEnds
  split
  case isTrue => exact endBeat_noticesUnique hs
  case isFalse => exact setTarget_noticesUnique hs

theorem recoveryEnds_noticesUnique (hs : NoticesUnique s) {t : Target} : NoticesUnique (recoveryEnds t s) := by
  unfold recoveryEnds
  split <;> exact setTarget_noticesUnique hs

theorem responseTimerExpires_noticesUnique (hs : NoticesUnique s) {t : Target} :
    NoticesUnique (responseTimerExpires t s) := by
  unfold responseTimerExpires
  split
  case h_1 => exact hs
  case h_2 r _ =>
    have silent {p : TargetPort} : NoticesUnique (endFaulted .targetSilent r.access (s.setTarget t p)) :=
      endFaulted_noticesUnique (setTarget_noticesUnique hs)
    exact raiseNotice_noticesUnique (answerDown_noticesUnique (setTarget_noticesUnique silent))

theorem beatCycle_noticesUnique (hs : NoticesUnique s) {t : Target} {c : Captured} :
    NoticesUnique (beatCycle t c s) := by
  unfold beatCycle
  dsimp only
  split
  case isTrue =>
    split
    case isTrue => exact responseTimerExpires_noticesUnique hs
    case isFalse =>
      split
      case isTrue => exact endBeat_noticesUnique hs
      case isFalse => exact setTarget_noticesUnique hs
  case isFalse =>
    split
    case isTrue => exact waitCountEnds_noticesUnique hs
    case isFalse => exact setTarget_noticesUnique hs

theorem skipRecovery_noticesUnique (hs : NoticesUnique s) {t : Target} : NoticesUnique (skipRecovery t s) := by
  unfold skipRecovery
  split
  case isTrue => exact recoveryEnds_noticesUnique hs
  case isFalse => exact hs

theorem phaseCycle_noticesUnique (hs : NoticesUnique s) {t : Target} : NoticesUnique (phaseCycle t s) := by
  unfold phaseCycle
  split
  case h_1 => exact beatCycle_noticesUnique hs
  case h_2 =>
    split
    case isTrue => exact recoveryEnds_noticesUnique hs
    case isFalse => exact setTarget_noticesUnique hs
  case h_3 => exact hs

theorem targetCycle_noticesUnique (hs : NoticesUnique s) {t : Target} : NoticesUnique (targetCycle t s) :=
  skipRecovery_noticesUnique (phaseCycle_noticesUnique (skipRecovery_noticesUnique hs))

/-! ### The resolver and the command unit -/

theorem hitAccess_noticesUnique (hs : NoticesUnique s) {m : Master} {r : Request} {k : AccessKind} {f : Form}
    {i : Slot} : NoticesUnique (hitAccess m r k f i s) := setPort_noticesUnique (setWindow_noticesUnique hs)

theorem resolveAccess_noticesUnique (hs : NoticesUnique s) {m : Master} {r : Request} :
    NoticesUnique (resolveAccess m r s) := by
  unfold resolveAccess
  split
  case h_1 => exact answer_noticesUnique hs
  case h_2 =>
    split
    case h_1 => exact answer_noticesUnique hs
    case h_2 => exact answer_noticesUnique hs
    case h_3 => exact hitAccess_noticesUnique hs

theorem takeAccess_noticesUnique (hs : NoticesUnique s) {m : Master} {r : Request} :
    NoticesUnique (takeAccess m r s) := by
  unfold takeAccess
  split
  case h_1 => exact resolveAccess_noticesUnique hs
  case h_2 => exact answer_noticesUnique hs
  case h_3 => exact answer_noticesUnique hs

theorem acknowledge_setMailbox_noticesUnique (hs : NoticesUnique s) {m : Master} {r : Request} {b : Mailbox} :
    NoticesUnique (acknowledge m r (s.setMailbox m b)) := answer_noticesUnique (setMailbox_noticesUnique hs)

theorem submitCommand_noticesUnique (hs : NoticesUnique s) {m : Master} {r : Request} {w : Word} :
    NoticesUnique (submitCommand m r w s) := by
  unfold submitCommand
  split
  case h_1 => exact answer_noticesUnique hs
  case h_2 => exact answer_noticesUnique hs
  case h_3 => exact acknowledge_setMailbox_noticesUnique hs
  case h_4 => exact acknowledge_setMailbox_noticesUnique hs

theorem popAperture_noticesUnique (hs : NoticesUnique s) {m : Master} {rest : List Request} :
    NoticesUnique (popAperture m rest s) := setPort_noticesUnique hs

/-! ### The ends of an offer, retirement and the countdowns -/

theorem withdrawOffer_noticesUnique (hs : NoticesUnique s) {i : Slot} : NoticesUnique (withdrawOffer i s) := by
  unfold withdrawOffer
  dsimp only
  split
  case h_1 => exact hs
  case h_2 => exact raiseNotice_noticesUnique (removeNotice_noticesUnique (setWindow_noticesUnique hs))

theorem declineOffer_noticesUnique (hs : NoticesUnique s) {i : Slot} : NoticesUnique (declineOffer i s) := by
  unfold declineOffer
  dsimp only
  split
  case h_1 => exact hs
  case h_2 => exact raiseNotice_noticesUnique (removeNotice_noticesUnique (setWindow_noticesUnique hs))

theorem reactivate_withdrawOffer_noticesUnique (hs : NoticesUnique s) {i : Slot} :
    NoticesUnique (reactivate i (withdrawOffer i s)) :=
  setWindow_noticesUnique (withdrawOffer_noticesUnique hs)

theorem retire_noticesUnique (hs : NoticesUnique s) {c : RetireCause} {i : Slot} : NoticesUnique (retire c i s) := by
  have cleared {w : Window} : NoticesUnique ((withdrawOffer i s).setWindow i w) :=
    setWindow_noticesUnique (withdrawOffer_noticesUnique hs)
  have revoked {m : Master} {w : Window} {b : Bool} {n : Notice} :
      NoticesUnique (if b = true then raiseNotice m n ((withdrawOffer i s).setWindow i w)
        else (withdrawOffer i s).setWindow i w) := by
    split
    case isTrue => exact raiseNotice_noticesUnique cleared
    case isFalse => exact cleared
  unfold retire
  dsimp only
  split
  case isTrue => exact freeSlot_noticesUnique revoked
  case isFalse => exact setWindow_noticesUnique revoked

theorem lapse_noticesUnique (hs : NoticesUnique s) {i : Slot} : NoticesUnique (lapse i s) :=
  raiseNotice_noticesUnique
    (removeNotice_noticesUnique (setWindow_noticesUnique (withdrawOffer_noticesUnique hs)))

theorem leaseRunsOut_noticesUnique (hs : NoticesUnique s) {i : Slot} : NoticesUnique (leaseRunsOut i s) := by
  unfold leaseRunsOut
  split
  case isTrue => exact retire_noticesUnique (removeNotice_noticesUnique hs)
  case isFalse => exact lapse_noticesUnique hs

theorem leaseCountdown_noticesUnique (hs : NoticesUnique s) {i : Slot} : NoticesUnique (leaseCountdown i s) := by
  have counted {w : Window} : NoticesUnique (s.setWindow i w) := setWindow_noticesUnique hs
  unfold leaseCountdown
  dsimp only
  split
  case isTrue => exact leaseRunsOut_noticesUnique counted
  case isFalse =>
    split
    case isTrue => exact raiseNotice_noticesUnique (setWindow_noticesUnique counted)
    case isFalse => exact counted

theorem offerCountdown_noticesUnique (hs : NoticesUnique s) {i : Slot} : NoticesUnique (offerCountdown i s) := by
  unfold offerCountdown
  dsimp only
  split
  case h_1 => exact hs
  case h_2 =>
    split
    case isTrue => exact raiseNotice_noticesUnique (reactivate_withdrawOffer_noticesUnique hs)
    case isFalse => exact setWindow_noticesUnique hs

theorem graceCountdown_noticesUnique (hs : NoticesUnique s) {i : Slot} : NoticesUnique (graceCountdown i s) := by
  have counted {w : Window} : NoticesUnique (s.setWindow i w) := setWindow_noticesUnique hs
  unfold graceCountdown
  dsimp only
  split
  case isTrue => exact retire_noticesUnique counted
  case isFalse => exact counted

theorem slotTick_noticesUnique (hs : NoticesUnique s) {i : Slot} : NoticesUnique (slotTick i s) := by
  have lease : NoticesUnique (if (s.window i).leasePeriod.isSome then leaseCountdown i s else s) := by
    split
    case isTrue => exact leaseCountdown_noticesUnique hs
    case isFalse => exact hs
  have offer {t : State} (ht : NoticesUnique t) :
      NoticesUnique (if (t.window i).state == .offered then offerCountdown i t else t) := by
    split
    case isTrue => exact offerCountdown_noticesUnique ht
    case isFalse => exact ht
  unfold slotTick
  split
  case h_1 => exact hs
  case h_2 => exact lease
  case h_3 => exact offer lease
  case h_4 => exact graceCountdown_noticesUnique hs
  case h_5 => exact hs

theorem tableTick_noticesUnique (hs : NoticesUnique s) : NoticesUnique (tableTick s) :=
  foldl_noticesUnique (fun _ _ h => slotTick_noticesUnique h) _ hs

theorem timerCycle_noticesUnique (hs : NoticesUnique s) : NoticesUnique (timerCycle s) := by
  unfold timerCycle
  split
  case isTrue => exact tableTick_noticesUnique (with_timer_noticesUnique hs)
  case isFalse => exact with_timer_noticesUnique hs

theorem fabricCycle_noticesUnique (hs : NoticesUnique s) : NoticesUnique (fabricCycle s) := by
  unfold fabricCycle
  split
  case isTrue => exact hs
  case isFalse =>
    exact timerCycle_noticesUnique (foldl_noticesUnique (fun _ _ h => targetCycle_noticesUnique h) allTargets hs)

/-! ### Every slot -/

theorem declineOffersTo_noticesUnique (hs : NoticesUnique s) {n : Master} : NoticesUnique (declineOffersTo n s) := by
  refine foldl_noticesUnique (fun t i ht => ?_) _ hs
  split
  case isTrue => exact declineOffer_noticesUnique ht
  case isFalse => exact ht

theorem retireWindowsOf_noticesUnique (hs : NoticesUnique s) {c : RetireCause} {n : Master} :
    NoticesUnique (retireWindowsOf c n s) := by
  refine foldl_noticesUnique (fun t i ht => ?_) _ hs
  split
  case isTrue => exact retire_noticesUnique ht
  case isFalse => exact ht

theorem withdrawOffersOf_noticesUnique (hs : NoticesUnique s) {n : Master} :
    NoticesUnique (withdrawOffersOf n s) := by
  refine foldl_noticesUnique (fun t i ht => ?_) _ hs
  split
  case isTrue => exact reactivate_withdrawOffer_noticesUnique ht
  case isFalse => exact ht

theorem disposeWindows_noticesUnique (hs : NoticesUnique s) {n : Master} : NoticesUnique (disposeWindows n s) := by
  unfold disposeWindows
  split
  case h_1 => exact retireWindowsOf_noticesUnique hs
  case h_2 => exact withdrawOffersOf_noticesUnique hs

end

end Sys2Proof.Machine
end

section
/-! Completions of commands and the other rows, as steps that leave every notice set in its order (R146). A refused
command leaves the state, so the checks of a command do not matter here. -/

namespace Sys2Proof.Machine

open Sys2Proof.Safety

section
variable {s u : State}

/-! ### Commands -/

theorem finish_noticesUnique (x : Execution) {c : Completion} (hc : NoticesUnique c.state) :
    NoticesUnique (finish x c) := noticesUnique_of_masters hc (finish_master x c)

theorem completeCommand_noticesUnique {id : CmdId} {body : Master → Params → State → Completion}
    (hs : NoticesUnique s) (h : ∀ m p, NoticesUnique (body m p s).state) :
    NoticesUnique (completeCommand id body s) := by
  obtain e | ⟨x, e⟩ := completeCommand_cases id body s
  · rw [e]; exact hs
  · rw [e]; exact finish_noticesUnique x (h x.master x.params)

/-- A checked command has the state of its effect or keeps the state it found (R77, R78). -/
theorem checked_state (l : List (Bool × ResultCode)) (s : State) (c : Completion) :
    (checked l s c).state = c.state ∨ (checked l s c).state = s :=
  (checked_cases l s c).imp_left fun ⟨_, e⟩ => congrArg Completion.state e

theorem checked_noticesUnique {l : List (Bool × ResultCode)} {c : Completion} (hs : NoticesUnique s)
    (h : NoticesUnique c.state) : NoticesUnique (checked l s c).state := by
  obtain e | e := checked_state l s c
  · rw [e]; exact h
  · rw [e]; exact hs

/-- A command whose effect is on other fields of one master record. -/
theorem checked_setMaster_noticesUnique {l : List (Bool × ResultCode)} {n : Master} {r : MasterRecord}
    {code : ResultCode} {words : ResultWords} (hs : NoticesUnique s) (h : r.notices = (s.master n).notices) :
    NoticesUnique (checked l s { state := s.setMaster n r, code := code, words := words }).state :=
  checked_noticesUnique hs (setMaster_noticesUnique_of_notices hs h)

theorem claimSlot_noticesUnique (hs : NoticesUnique s) {layer : Layer} {holder : Master}
    {members : Option (BitVec 6)} {p : Params} : NoticesUnique (claimSlot layer holder members p s).state := by
  unfold claimSlot
  split
  case h_1 => exact hs
  case h_2 => exact setWindow_noticesUnique hs

theorem findHeldBody_noticesUnique (hs : NoticesUnique s) {m : Master} {p : Params} :
    NoticesUnique (findHeldBody m p s).state := by
  refine checked_noticesUnique hs ?_
  split <;> exact hs

/-- TAKE_NOTICE removes at most one notice of the asking master (R148). -/
theorem takeNoticeBody_noticesUnique (hs : NoticesUnique s) {m : Master} {p : Params} :
    NoticesUnique (takeNoticeBody m p s).state := by
  unfold takeNoticeBody
  split
  case h_1 => exact hs
  case h_2 => exact setMaster_noticesUnique hs (dropNotice_rising (hs m))

theorem clearFaultBody_noticesUnique (hs : NoticesUnique s) {m : Master} {p : Params} :
    NoticesUnique (clearFaultBody m p s).state :=
  removeNotice_noticesUnique (setMaster_noticesUnique_of_notices hs (by rfl))

theorem madeOffline_noticesUnique (hs : NoticesUnique s) {n : Master} : NoticesUnique (madeOffline n s) :=
  setMaster_noticesUnique_of_nil hs rfl

theorem detachMailbox_master (n : Master) (s : State) (m : Master) : (detachMailbox n s).master m = s.master m := by
  unfold detachMailbox
  split <;> rfl

theorem detachEffect_noticesUnique (hs : NoticesUnique s) {n : Master} : NoticesUnique (detachEffect n s) :=
  noticesUnique_of_masters
    (retireWindowsOf_noticesUnique (declineOffersTo_noticesUnique (madeOffline_noticesUnique hs)))
    (detachMailbox_master n _)

/-- DETACH has its effect or is refused (R78). -/
theorem detachBody_state (m : Master) (q : Params) (s : State) :
    (detachBody m q s).state = detachEffect (masterParam q.p0) s ∨ (detachBody m q s).state = s := by
  unfold detachBody
  exact (checked_state ..).imp_left fun done => by rw [done]

/-- ATTACH has its effect or is refused (R78, R162). -/
theorem attachBody_state (m : Master) (q : Params) (s : State) :
    (attachBody m q s).state =
        s.setMaster (masterParam q.p0) { s.master (masterParam q.p0) with state := .online, notices := [] } ∨
      (attachBody m q s).state = s := by
  unfold attachBody
  exact (checked_state ..).imp_left fun done => by rw [done]

theorem detachBody_noticesUnique (hs : NoticesUnique s) {m : Master} {p : Params} :
    NoticesUnique (detachBody m p s).state := by
  obtain done | refused := detachBody_state m p s
  · rw [done]; exact detachEffect_noticesUnique hs
  · rw [refused]; exact hs

theorem attachBody_noticesUnique (hs : NoticesUnique s) {m : Master} {p : Params} :
    NoticesUnique (attachBody m p s).state := by
  obtain done | refused := attachBody_state m p s
  · rw [done]; exact setMaster_noticesUnique_of_nil hs rfl
  · rw [refused]; exact hs

/-! ### The ports, the resolver and the command unit -/

theorem execRequestAcceptance_noticesUnique {m : Master} {r : Request} (hs : NoticesUnique s)
    (h : execRequestAcceptance m r s = .next u) : NoticesUnique u := by
  obtain rfl := Host.Outcome.next.inj h
  split
  case isTrue => exact setPort_noticesUnique hs
  case isFalse => exact hs

theorem execResolution_noticesUnique (hs : NoticesUnique s) (h : execResolution s = .next u) : NoticesUnique u := by
  obtain rfl := Host.Outcome.next.inj h
  split
  case h_1 => exact hs
  case h_2 =>
    split
    case h_1 => exact hs
    case h_2 =>
      refine takeAccess_noticesUnique (noticesUnique_of_masters hs ?_)
      exact fun _ => rfl

theorem execAdmission_noticesUnique {t : Target} (hs : NoticesUnique s) (h : execAdmission t s = .next u) :
    NoticesUnique u := by
  obtain rfl := Host.Outcome.next.inj h
  split
  case isFalse => exact hs
  case isTrue =>
    split
    case h_1 => exact hs
    case h_2 =>
      split
      case h_1 => exact hs
      case h_2 => exact setTarget_noticesUnique (setPort_noticesUnique hs)

theorem execAccessStart_noticesUnique {t : Target} (hs : NoticesUnique s) (h : execAccessStart t s = .next u) :
    NoticesUnique u := by
  obtain rfl := Host.Outcome.next.inj h
  split
  case isFalse => exact hs
  case isTrue =>
    split
    case h_1 => exact hs
    case h_2 => exact setTarget_noticesUnique hs

theorem execWaitCountEnd_noticesUnique {t : Target} {ready error : Bool} {data : Word} (hs : NoticesUnique s)
    (h : execWaitCountEnd t ready error data s = .next u) : NoticesUnique u := by
  obtain rfl := Host.Outcome.next.inj h
  split
  case isTrue => exact waitCountEnds_noticesUnique (setTarget_noticesUnique hs)
  case isFalse => exact hs

theorem execBeatEnd_noticesUnique {t : Target} {error : Bool} {data : Word} (hs : NoticesUnique s)
    (h : execBeatEnd t error data s = .next u) : NoticesUnique u := by
  obtain rfl := Host.Outcome.next.inj h
  split
  case isTrue => exact endBeat_noticesUnique (setTarget_noticesUnique hs)
  case isFalse => exact hs

theorem execRecoveryEnd_noticesUnique {t : Target} (hs : NoticesUnique s) (h : execRecoveryEnd t s = .next u) :
    NoticesUnique u := by
  obtain rfl := Host.Outcome.next.inj h
  split
  case isTrue => exact recoveryEnds_noticesUnique hs
  case isFalse => exact hs

theorem execResponseTimerExpiry_noticesUnique {t : Target} (hs : NoticesUnique s)
    (h : execResponseTimerExpiry t s = .next u) : NoticesUnique u := by
  obtain rfl := Host.Outcome.next.inj h
  split
  case isTrue => exact responseTimerExpires_noticesUnique (setTarget_noticesUnique hs)
  case isFalse => exact hs

theorem execParameterWrite_noticesUnique {m : Master} (hs : NoticesUnique s)
    (h : execParameterWrite m s = .next u) : NoticesUnique u := by
  obtain rfl := Host.Outcome.next.inj h
  split
  case h_1 => exact hs
  case h_2 r rest _ =>
    have popped := popAperture_noticesUnique hs (m := m) (rest := rest)
    split
    case h_1 => exact answer_noticesUnique popped
    case h_2 => exact acknowledge_setMailbox_noticesUnique popped
    case h_3 => exact hs
    case h_4 => exact hs

theorem execCommandSubmission_noticesUnique {m : Master} (hs : NoticesUnique s)
    (h : execCommandSubmission m s = .next u) : NoticesUnique u := by
  obtain rfl := Host.Outcome.next.inj h
  split
  case h_1 => exact hs
  case h_2 r rest _ =>
    have popped := popAperture_noticesUnique hs (m := m) (rest := rest)
    split
    case h_1 => exact answer_noticesUnique popped
    case h_2 => exact submitCommand_noticesUnique popped
    case h_3 => exact hs
    case h_4 => exact hs

theorem execApertureAccessTaking_noticesUnique {m : Master} (hs : NoticesUnique s)
    (h : execApertureAccessTaking m s = .next u) : NoticesUnique u := by
  obtain rfl := Host.Outcome.next.inj h
  split
  case h_1 => exact hs
  case h_2 r rest _ =>
    have popped := popAperture_noticesUnique hs (m := m) (rest := rest)
    split
    case h_1 => exact answer_noticesUnique popped
    case h_2 => exact answer_noticesUnique popped
    case h_3 => exact hs
    case h_4 => exact hs

theorem execEngineGrant_noticesUnique (hs : NoticesUnique s) (h : execEngineGrant s = .next u) :
    NoticesUnique u := by
  obtain rfl := Host.Outcome.next.inj h
  split
  case h_1 => exact hs
  case h_2 =>
    split
    case h_1 => exact hs
    case h_2 => exact noticesUnique_of_masters hs fun _ => rfl

theorem execBadCommand_noticesUnique (hs : NoticesUnique s) (h : execBadCommand s = .next u) : NoticesUnique u := by
  obtain rfl := Host.Outcome.next.inj h
  split
  case h_1 => exact hs
  case h_2 x _ =>
    split
    case isTrue => exact finish_noticesUnique x (c := refusal .badCommand s) hs
    case isFalse => exact hs

/-! ### Ticks -/

theorem execLeaseTick_noticesUnique (hs : NoticesUnique s) (h : execLeaseTick s = .next u) : NoticesUnique u := by
  obtain rfl := Host.Outcome.next.inj h
  split
  case isTrue => exact hs
  case isFalse => exact tableTick_noticesUnique (with_timer_noticesUnique hs)

theorem execLeaseExpiry_noticesUnique {i : Slot} (hs : NoticesUnique s) (h : execLeaseExpiry i s = .next u) :
    NoticesUnique u := by
  obtain rfl := Host.Outcome.next.inj h
  split
  case isTrue => exact leaseCountdown_noticesUnique hs
  case isFalse => exact hs

theorem execGraceExpiry_noticesUnique {i : Slot} (hs : NoticesUnique s) (h : execGraceExpiry i s = .next u) :
    NoticesUnique u := by
  obtain rfl := Host.Outcome.next.inj h
  split
  case isTrue => exact graceCountdown_noticesUnique hs
  case isFalse => exact hs

theorem execOfferExpiry_noticesUnique {i : Slot} (hs : NoticesUnique s) (h : execOfferExpiry i s = .next u) :
    NoticesUnique u := by
  obtain rfl := Host.Outcome.next.inj h
  split_ifs
  · exact offerCountdown_noticesUnique hs
  · exact hs

/-! ### Resets -/

theorem resetMailboxOf_master (n : Master) (s : State) (m : Master) :
    (resetMailboxOf n s).master m = s.master m := by
  unfold resetMailboxOf
  dsimp only
  split <;> rfl

/-- A master reset begins with the port, the mailbox and the notices of the master (R43, R80, R163 steps 1 and 2). -/
def noticesReset (n : Master) (s : State) : State :=
  resetNotices n (resetMailboxOf n (s.setPort n (s.port n).assertReset))

theorem masterUnwound_eq (n : Master) (s : State) : masterUnwound n s = declineOffersTo n (noticesReset n s) := rfl

theorem noticesReset_noticesUnique (hs : NoticesUnique s) {n : Master} : NoticesUnique (noticesReset n s) :=
  setMaster_noticesUnique_of_nil (noticesUnique_of_masters (setPort_noticesUnique hs) (resetMailboxOf_master n _)) rfl

theorem execMasterReset_noticesUnique {n : Master} (hs : NoticesUnique s) (h : execMasterReset n s = .next u) :
    NoticesUnique u := by
  obtain rfl := Host.Outcome.next.inj h
  split
  case isTrue => exact hs
  case isFalse =>
    exact disposeWindows_noticesUnique (declineOffersTo_noticesUnique (noticesReset_noticesUnique hs))

theorem execMasterResetDeassertion_noticesUnique {n : Master} (hs : NoticesUnique s)
    (h : execMasterResetDeassertion n s = .next u) : NoticesUnique u := by
  obtain rfl := Host.Outcome.next.inj h
  split
  case isTrue => exact setPort_noticesUnique hs
  case isFalse => exact hs

theorem resetMasters_notices : ∀ m : Master, resetMasters[m].notices = [] := by decide

/-- A device reset empties every set (R154). -/
theorem assertDeviceReset_notices (s : State) (m : Master) : ((assertDeviceReset s).master m).notices = [] :=
  resetMasters_notices m

theorem assertDeviceReset_noticesUnique (s : State) : NoticesUnique (assertDeviceReset s) := fun m => by
  rw [assertDeviceReset_notices]; exact .nil

/-! ### Every step -/

theorem exec_noticesUnique {c : Instr} (hs : NoticesUnique s) (h : exec c s = .next u) : NoticesUnique u := by
  cases c with
  | requestAcceptance => exact execRequestAcceptance_noticesUnique hs h
  | resolution => exact execResolution_noticesUnique hs h
  | admission => exact execAdmission_noticesUnique hs h
  | accessStart => exact execAccessStart_noticesUnique hs h
  | waitCountEnd => exact execWaitCountEnd_noticesUnique hs h
  | beatEnd => exact execBeatEnd_noticesUnique hs h
  | recoveryEnd => exact execRecoveryEnd_noticesUnique hs h
  | responseTimerExpiry => exact execResponseTimerExpiry_noticesUnique hs h
  | responseReturn => cases h; exact setPort_noticesUnique hs
  | parameterWrite => exact execParameterWrite_noticesUnique hs h
  | engineGrant => exact execEngineGrant_noticesUnique hs h
  | badCommand => exact execBadCommand_noticesUnique hs h
  | claim =>
    cases h
    exact completeCommand_noticesUnique hs fun _ _ => checked_noticesUnique hs (claimSlot_noticesUnique hs)
  | claimCommon =>
    cases h
    exact completeCommand_noticesUnique hs fun _ _ => checked_noticesUnique hs (claimSlot_noticesUnique hs)
  | extend =>
    cases h
    exact completeCommand_noticesUnique hs fun _ _ => checked_noticesUnique hs (setWindow_noticesUnique hs)
  | release =>
    cases h
    exact completeCommand_noticesUnique hs fun _ _ => checked_noticesUnique hs (retire_noticesUnique hs)
  | revoke =>
    cases h
    exact completeCommand_noticesUnique hs fun _ _ => checked_noticesUnique hs (retire_noticesUnique hs)
  | setMembers =>
    cases h; exact completeCommand_noticesUnique hs fun _ _ => checked_noticesUnique hs (setWindow_noticesUnique hs)
  | query => cases h; exact completeCommand_noticesUnique hs fun _ _ => checked_noticesUnique hs hs
  | queryAddress => cases h; exact completeCommand_noticesUnique hs fun _ _ => checked_noticesUnique hs hs
  | findHeld => cases h; exact completeCommand_noticesUnique hs fun _ _ => findHeldBody_noticesUnique hs
  | renew =>
    cases h
    exact completeCommand_noticesUnique hs fun _ _ =>
      checked_noticesUnique hs (removeNotice_noticesUnique (setWindow_noticesUnique hs))
  | setLeaseClock =>
    cases h
    exact completeCommand_noticesUnique hs fun _ _ => checked_noticesUnique hs (with_timer_noticesUnique hs)
  | offer =>
    cases h
    exact completeCommand_noticesUnique hs fun _ _ =>
      checked_noticesUnique hs (raiseNotice_noticesUnique (setWindow_noticesUnique hs))
  | withdraw =>
    cases h
    exact completeCommand_noticesUnique hs fun _ _ =>
      checked_noticesUnique hs (reactivate_withdrawOffer_noticesUnique hs)
  | accept =>
    cases h
    exact completeCommand_noticesUnique hs fun _ _ =>
      checked_noticesUnique hs (raiseNotice_noticesUnique (removeNotice_noticesUnique (setWindow_noticesUnique hs)))
  | decline =>
    cases h
    exact completeCommand_noticesUnique hs fun _ _ => checked_noticesUnique hs (declineOffer_noticesUnique hs)
  | readFault => cases h; exact completeCommand_noticesUnique hs fun _ _ => hs
  | clearFault => cases h; exact completeCommand_noticesUnique hs fun _ _ => clearFaultBody_noticesUnique hs
  | releaseHold => cases h; exact completeCommand_noticesUnique hs fun _ _ => checked_setMaster_noticesUnique hs rfl
  | takeNotice => cases h; exact completeCommand_noticesUnique hs fun _ _ => takeNoticeBody_noticesUnique hs
  | setNoticeOrder => cases h; exact completeCommand_noticesUnique hs fun _ _ => checked_setMaster_noticesUnique hs rfl
  | setNoticeEnable => cases h; exact completeCommand_noticesUnique hs fun _ _ => checked_setMaster_noticesUnique hs rfl
  | setMaster => cases h; exact completeCommand_noticesUnique hs fun _ _ => checked_setMaster_noticesUnique hs rfl
  | queryMaster => cases h; exact completeCommand_noticesUnique hs fun _ _ => checked_noticesUnique hs hs
  | detach => cases h; exact completeCommand_noticesUnique hs fun _ _ => detachBody_noticesUnique hs
  | attach => cases h; exact completeCommand_noticesUnique hs fun _ _ => attachBody_noticesUnique hs
  | setTarget =>
    cases h
    exact completeCommand_noticesUnique hs fun _ _ => checked_noticesUnique hs (setTarget_noticesUnique hs)
  | targetOnline =>
    cases h
    exact completeCommand_noticesUnique hs fun _ _ =>
      checked_noticesUnique hs (removeNotice_noticesUnique (setTarget_noticesUnique hs))
  | targetOffline =>
    cases h
    exact completeCommand_noticesUnique hs fun _ _ =>
      checked_noticesUnique hs (answerDown_noticesUnique (setTarget_noticesUnique hs))
  | queryTarget => cases h; exact completeCommand_noticesUnique hs fun _ _ => checked_noticesUnique hs hs
  | leaseTick => exact execLeaseTick_noticesUnique hs h
  | leaseExpiry => exact execLeaseExpiry_noticesUnique hs h
  | graceExpiry => exact execGraceExpiry_noticesUnique hs h
  | offerExpiry => exact execOfferExpiry_noticesUnique hs h
  | masterReset => exact execMasterReset_noticesUnique hs h
  | masterResetDeassertion => exact execMasterResetDeassertion_noticesUnique hs h
  | deviceReset => cases h; exact assertDeviceReset_noticesUnique s
  | deviceResetDeassertion => cases h; exact noticesUnique_of_masters hs fun _ => rfl
  | commandSubmission => exact execCommandSubmission_noticesUnique hs h
  | apertureAccessTaking => exact execApertureAccessTaking_noticesUnique hs h

theorem step_noticesUnique (hs : NoticesUnique s) (h : step s = .next u) : NoticesUnique u := by
  obtain ⟨-, rfl⟩ | ⟨c, rest, -, hc⟩ := step_cases h
  · exact fabricCycle_noticesUnique hs
  · exact exec_noticesUnique (s := { s with pending := rest }) hs hc

end

end Sys2Proof.Machine
end

section
/-! What DETACH, ATTACH, TAKE_NOTICE and a master reset leave in the set they are about (R146). A set emptied by DETACH
or by a master reset stays clear of the notices about offers, because no offer names the holder of its window (R131), so
that the ends of the offers concern other masters. -/

namespace Sys2Proof.Machine

open Sys2Proof.Safety

/-! ### Offers go to other masters -/

/-- The part of R131 that holds also while a master is being made OFFLINE. -/
def OffersToOthers (s : State) : Prop :=
  ∀ i, (s.window i).OfferMarked ∧ ∀ o ∈ (s.window i).offer, o.recipient ≠ (s.window i).holder

/-- Every notice of the set of a master meets a condition. -/
def State.SetWithin (s : State) (n : Master) (p : Notice → Prop) : Prop := ∀ x ∈ (s.master n).notices, p x

section
variable {s u : State} {n : Master} {p : Notice → Prop}

theorem offersToOthers_of_offerLaw (hs : OfferLaw s) : OffersToOthers s :=
  fun i => ⟨(hs i).1, fun o ho => ((offerLaw_iff.1 hs i).2 o ho).1⟩

theorem offersToOthers_of_windows (hs : OffersToOthers s) (h : ∀ i, u.window i = s.window i) : OffersToOthers u :=
  fun i => h i ▸ hs i

theorem KeepsOffers.offersToOthers (h : KeepsOffers s u) (hs : OffersToOthers s) : OffersToOthers u := by
  intro i
  obtain ⟨marked, others⟩ := hs i
  have c := h.window i marked
  refine ⟨c.marked, fun o' ho' => ?_⟩
  obtain ⟨o, ho, recipient⟩ := c.offer o' ho'
  obtain ⟨-, -, holder⟩ := c.live (c.marked.live_of_mem ho')
  rw [recipient, holder]
  exact others o ho

/-- A visit of every slot whose visits keep the offers and the condition on a set. -/
theorem foldl_allSlots_setWithin {f : State → Slot → State} (keeps : ∀ t i, KeepsOffers t (f t i))
    (within : ∀ t i, OffersToOthers t → t.SetWithin n p → (f t i).SetWithin n p) (hs : OffersToOthers s)
    (hn : s.SetWithin n p) : (allSlots.foldl f s).SetWithin n p := by
  have both : OffersToOthers (allSlots.foldl f s) ∧ (allSlots.foldl f s).SetWithin n p :=
    List.foldlRecOn (motive := fun t => OffersToOthers t ∧ t.SetWithin n p) allSlots f ⟨hs, hn⟩
      fun t ht i _ => ⟨(keeps t i).offersToOthers ht.1, within t i ht.1 ht.2⟩
  exact both.2

/-! ### Raising and removing -/

theorem State.SetWithin.of_master (h : s.SetWithin n p) (e : u.master n = s.master n) : u.SetWithin n p := by
  unfold State.SetWithin; rw [e]; exact h

theorem State.SetWithin.raise {m : Master} {x : Notice} (h : s.SetWithin n p) (hx : m = n → p x) :
    (raiseNotice m x s).SetWithin n p := by
  intro y hy
  rw [raiseNotice_master_notices] at hy
  split at hy
  case isTrue e =>
    obtain rfl | hy := eq_or_mem_of_mem_insertNotice hy
    · exact hx e.symm
    · exact h y (e ▸ hy)
  case isFalse => exact h y hy

theorem State.SetWithin.remove (h : s.SetWithin n p) {m : Master} {k : NoticeKind} {i : Slot} :
    (removeNotice m k i s).SetWithin n p := by
  intro y hy
  rw [removeNotice_master_notices] at hy
  split at hy
  case isTrue e => exact h y (e ▸ (mem_dropNotice.1 hy).1)
  case isFalse => exact h y hy

theorem State.SetWithin.setWindow (h : s.SetWithin n p) {i : Slot} {w : Window} : (s.setWindow i w).SetWithin n p :=
  h.of_master rfl

/-! ### The ends of an offer and retirement -/

/-- An offer declined concerns its recipient, who loses a notice, and the holder. -/
theorem declineOffer_setWithin {i : Slot} (h : s.SetWithin n p) (hi : (s.window i).holder ≠ n) :
    (declineOffer i s).SetWithin n p := by
  unfold declineOffer
  dsimp only
  split
  case h_1 => exact h
  case h_2 => exact h.setWindow.remove.raise fun e => absurd e hi

/-- An offer withdrawn concerns its recipient. -/
theorem withdrawOffer_setWithin {i : Slot} (h : s.SetWithin n p) (hi : ∀ o ∈ (s.window i).offer, o.recipient ≠ n) :
    (withdrawOffer i s).SetWithin n p := by
  unfold withdrawOffer
  dsimp only
  split
  case h_1 => exact h
  case h_2 o ho => exact h.setWindow.remove.raise fun e => absurd e (hi o ho)

/-- A slot that becomes FREE without a cause raises nothing (R20). -/
theorem freeSlot_none_master (i : Slot) (s : State) (m : Master) : (freeSlot i .none s).master m = s.master m := by
  simp [freeSlot]

/-- A retirement whose cause is not returned at FREE raises WINDOW_REVOKED to the holder at most (R17). -/
theorem retire_setWithin {c : RetireCause} {i : Slot} (h : s.SetWithin n p)
    (hi : ∀ o ∈ (s.window i).offer, o.recipient ≠ n) (hc : c.freeNotice = .none)
    (revoked : c.revokes n = true → ∀ x : Notice, x.kind = .windowRevoked → p x) : (retire c i s).SetWithin n p := by
  have withdrawn := withdrawOffer_setWithin h hi
  have raised {m : Master} {g : Gen} {w : Window} :
      (if c.revokes m = true then raiseNotice m (slotNotice .windowRevoked i g) ((withdrawOffer i s).setWindow i w)
        else (withdrawOffer i s).setWindow i w).SetWithin n p := by
    split
    case isTrue hr => exact withdrawn.setWindow.raise fun e => revoked (e ▸ hr) _ rfl
    case isFalse => exact withdrawn.setWindow
  unfold retire
  dsimp only
  rw [hc]
  split
  case isTrue => exact State.SetWithin.of_master raised (freeSlot_none_master i _ n)
  case isFalse => exact raised.setWindow

/-! ### Every slot -/

theorem Window.holder_of_retirableOf {w : Window} {m : Master} (h : w.retirableOf m = true) : w.holder = m := by
  unfold Window.retirableOf at h
  simp only [Bool.and_eq_true, beq_iff_eq] at h
  obtain ⟨⟨-, holder⟩, -⟩ := h
  exact holder

/-- The offers on a window of a master name others. -/
theorem OffersToOthers.recipient_ne (hs : OffersToOthers s) {i : Slot} (h : (s.window i).retirableOf n = true) :
    ∀ o ∈ (s.window i).offer, o.recipient ≠ n :=
  fun o ho => Window.holder_of_retirableOf h ▸ (hs i).2 o ho

/-- The holder of a window offered to a master is another. -/
theorem OffersToOthers.holder_ne (hs : OffersToOthers s) {i : Slot} (h : (s.window i).offeredTo n = true) :
    (s.window i).holder ≠ n := by
  obtain ⟨o, ho, rfl⟩ := Window.offeredTo_iff.1 h
  exact ((hs i).2 o ho).symm

theorem declineOffersTo_setWithin (hs : OffersToOthers s) (h : s.SetWithin n p) :
    (declineOffersTo n s).SetWithin n p := by
  refine foldl_allSlots_setWithin (fun t i => ?keeps) (fun t i others ht => ?within) hs h
  case keeps =>
    split
    case isTrue => exact declineOffer_keepsOffers i t
    case isFalse => exact .refl t
  case within =>
    split
    case isTrue offered => exact declineOffer_setWithin ht (others.holder_ne offered)
    case isFalse => exact ht

theorem retireWindowsOf_setWithin {c : RetireCause} (hs : OffersToOthers s) (h : s.SetWithin n p)
    (hc : c.freeNotice = .none) (revoked : c.revokes n = true → ∀ x : Notice, x.kind = .windowRevoked → p x) :
    (retireWindowsOf c n s).SetWithin n p := by
  refine foldl_allSlots_setWithin (fun t i => ?keeps) (fun t i others ht => ?within) hs h
  case keeps =>
    split
    case isTrue own => exact retire_keepsOffers c (Window.live_of_retirableOf own)
    case isFalse => exact .refl t
  case within =>
    split
    case isTrue own => exact retire_setWithin ht (others.recipient_ne own) hc revoked
    case isFalse => exact ht

theorem withdrawOffersOf_setWithin (hs : OffersToOthers s) (h : s.SetWithin n p) :
    (withdrawOffersOf n s).SetWithin n p := by
  refine foldl_allSlots_setWithin (fun t i => ?keeps) (fun t i others ht => ?within) hs h
  case keeps =>
    split
    case isTrue own =>
      exact reactivate_withdrawOffer_keepsOffers (Window.live_of_retirableOf (Bool.and_eq_true_iff.1 own).1)
    case isFalse => exact .refl t
  case within =>
    split
    case isTrue own =>
      exact (withdrawOffer_setWithin ht (others.recipient_ne (Bool.and_eq_true_iff.1 own).1)).setWindow
    case isFalse => exact ht

/-- Neither disposition of a master reset raises a notice to the master (R17, R163). -/
theorem disposeWindows_setWithin (hs : OffersToOthers s) (h : s.SetWithin n p) :
    (disposeWindows n s).SetWithin n p := by
  unfold disposeWindows
  split
  case h_1 => exact retireWindowsOf_setWithin hs h rfl fun revokes => by cases revokes
  case h_2 => exact withdrawOffersOf_setWithin hs h

/-! ### The commands and the master reset -/

theorem setMaster_setWithin_of_nil {r : MasterRecord} (h : r.notices = []) : (s.setMaster n r).SetWithin n p := by
  intro x hx
  simp [h] at hx

/-- DETACH leaves the master WINDOW_REVOKED alone (R146, R159). -/
theorem detachEffect_setWithin (hs : OfferLaw s) :
    (detachEffect n s).SetWithin n fun x => x.kind = .windowRevoked := by
  have others : OffersToOthers (madeOffline n s) :=
    offersToOthers_of_windows (offersToOthers_of_offerLaw hs) fun _ => rfl
  have cleared : (madeOffline n s).SetWithin n fun x => x.kind = .windowRevoked := setMaster_setWithin_of_nil rfl
  have declined := declineOffersTo_setWithin others cleared
  have retired := retireWindowsOf_setWithin (c := .detach)
    ((declineOffersTo_keepsOffers n _).offersToOthers others) declined rfl fun _ _ h => h
  exact retired.of_master (detachMailbox_master ..)

/-- The one master that DETACH makes OFFLINE is the one it names. -/
theorem execDetach_setWithin {m : Master} (hs : OfferLaw s) (h : execDetach s = .next u)
    (online : (s.master m).state ≠ .offline) (offline : (u.master m).state = .offline) :
    u.SetWithin m fun x => x.kind = .windowRevoked := by
  obtain rfl := Host.Outcome.next.inj h
  obtain e | ⟨x, e⟩ := completeCommand_cases .detach detachBody s
  · exact absurd (e ▸ offline) online
  · rw [e, finish_master] at offline
    rw [e]
    refine State.SetWithin.of_master ?_ (finish_master ..)
    obtain done | refused := detachBody_state x.master x.params s
    · rw [done] at offline ⊢
      have named : m = masterParam x.params.p0 := by_contra fun ne => online (offline_of_detachEffect ne offline)
      exact named ▸ detachEffect_setWithin hs
    · exact absurd (refused ▸ offline) online

/-- ATTACH empties the set of the master it brings back (R162). -/
theorem execAttach_notices {m : Master} (h : execAttach s = .next u) (offline : (s.master m).state = .offline)
    (online : (u.master m).state ≠ .offline) : (u.master m).notices = [] := by
  obtain rfl := Host.Outcome.next.inj h
  obtain e | ⟨x, e⟩ := completeCommand_cases .attach attachBody s
  · exact absurd offline (e ▸ online)
  · rw [e, finish_master] at online ⊢
    obtain done | refused := attachBody_state x.master x.params s
    · rw [done, State.master_setMaster] at online ⊢
      split at online
      case isTrue named => rw [if_pos named]
      case isFalse => exact absurd offline online
    · exact absurd offline (refused ▸ online)

theorem takeNoticeBody_setWithin (m : Master) (q : Params) (h : s.SetWithin n p) :
    (takeNoticeBody m q s).state.SetWithin n p := by
  unfold takeNoticeBody
  split
  case h_1 => exact h
  case h_2 => exact h.remove

/-- TAKE_NOTICE adds no notice to a set (R148). -/
theorem execTakeNotice_setWithin (h : execTakeNotice s = .next u) (hn : s.SetWithin n p) : u.SetWithin n p := by
  obtain rfl := Host.Outcome.next.inj h
  obtain e | ⟨x, e⟩ := completeCommand_cases .takeNotice takeNoticeBody s
  · rw [e]; exact hn
  · rw [e]; exact (takeNoticeBody_setWithin x.master x.params hn).of_master (finish_master ..)

/-- A master reset leaves the set of the master empty (R146, R163). -/
theorem execMasterReset_notices (hs : OfferLaw s) (line : (s.port n).lineAsserted = false)
    (h : execMasterReset n s = .next u) : (u.master n).notices = [] := by
  rw [execMasterReset_of_deasserted line] at h
  obtain rfl := Host.Outcome.next.inj h
  have kept : KeepsOffers s (noticesReset n s) :=
    ((keepsOffers_setPort ..).trans (resetMailboxOf_keepsOffers n _)).trans (keepsOffers_setMaster fun h => h)
  have others := kept.offersToOthers (offersToOthers_of_offerLaw hs)
  have cleared : (noticesReset n s).SetWithin n fun _ => False := setMaster_setWithin_of_nil rfl
  have declined := declineOffersTo_setWithin others cleared
  have unwound := (declineOffersTo_keepsOffers n _).offersToOthers others
  rw [masterUnwound_eq]
  exact List.eq_nil_iff_forall_not_mem.2 (disposeWindows_setWithin unwound declined)

end

/-! ### The obligation -/

/-- Settles O54: raising and removing at a set, the order that every step keeps, and the sets after the resets, DETACH,
ATTACH and TAKE_NOTICE. -/
theorem noticeSetsHoldOneOfAKindAndKey : Obligations.NoticeSetsHoldOneOfAKindAndKey := by
  intro s hs ho
  refine ⟨fun m n x => mem_raiseNotice_iff hs, fun m k i x => mem_removeNotice_iff, fun u h => ?_⟩
  intro front
  have unique := step_noticesUnique hs h
  refine ⟨unique, fun m a ha b hb => RisingRanks.eq_of_kind_key (unique m) ha hb, fun hf m => ?deviceReset,
    fun n hf line => ?masterReset, fun m hf offline online => ?attach, fun m hf online offline => ?detach,
    fun hf m => ?takeNotice⟩ <;> obtain ⟨rest, hc⟩ := exec_of_front h hf
  case deviceReset =>
    obtain rfl := Host.Outcome.next.inj hc
    exact assertDeviceReset_notices _ m
  case masterReset => exact execMasterReset_notices (s := { s with pending := rest }) ho line hc
  case attach => exact execAttach_notices (s := { s with pending := rest }) hc offline online
  case detach => exact execDetach_setWithin (s := { s with pending := rest }) ho hc online offline
  case takeNotice => exact execTakeNotice_setWithin (s := { s with pending := rest }) hc fun _ hx => hx

end Sys2Proof.Machine
end

section
/-! The changes a step is made of: edits of one window, of one master record and of one target port, moves of one access
between its places, and their sequences. Every row of the table is such a sequence, or one of the few changes that do
more; the invariants are proved of these changes. -/

namespace Sys2Proof.Machine

open Sys2Proof.Safety

/-! ### Edits of one record -/

/-- An edit of one window that makes no live window, moves none and starts no offer; `grace` is the grace setting. -/
inductive Window.Edit (grace : Nat) (w : Window) : Window → Prop
  /-- The end of an offer, the state staying. -/
  | withdraw : Window.Edit grace w { w with offer := none }
  /-- The end of an offer that returns the window to ACTIVE. -/
  | decline (h : w.offer.isSome = true) : Window.Edit grace w { w with offer := none, state := .active }
  | activate (hl : w.live = true) (hd : w.state ≠ .draining) : Window.Edit grace w { w with state := .active }
  | lapse (hl : w.live = true) (hd : w.state ≠ .draining) :
    Window.Edit grace w { w with state := .lapsed, leaseRemaining := 0, warned := false, graceRemaining := grace }
  /-- The lease counts down. -/
  | lease (n : Nat) (hn : n ≤ w.leaseRemaining) : Window.Edit grace w { w with leaseRemaining := n }
  | warn : Window.Edit grace w { w with warned := true }
  /-- The grace counts down. -/
  | grace (n : Nat) (hn : n ≤ w.graceRemaining) : Window.Edit grace w { w with graceRemaining := n }
  /-- The ticks of an offer count down. -/
  | ticks (o : Offer) (ho : w.offer = some o) (ht : o.ticks - 1 ≠ 0) :
    Window.Edit grace w { w with offer := some { o with ticks := o.ticks - 1 } }
  | renew (hl : w.live = true) (hd : w.state ≠ .draining) :
    Window.Edit grace w
      { w with
        state := if w.state == .lapsed then .active else w.state
        leaseRemaining := w.leasePeriod.getD 0
        warned := false
        graceRemaining := if w.state == .lapsed then 0 else w.graceRemaining }
  /-- A retirement clears the countdowns. -/
  | unwind : Window.Edit grace w { w with leaseRemaining := 0, warned := false, graceRemaining := 0 }
  | drain (n : RetireNotice) (hl : w.live = true) (hf : w.inFlight ≠ 0) :
    Window.Edit grace w { w with state := .draining, retireNotice := n }
  | free (hf : w.inFlight = 0) : Window.Edit grace w (freeWindow (w.gen + 1))

/-- An edit of one master record that leaves its policy and quota, and its state but for a hold under HOLD or a return
to ONLINE. -/
structure MasterRecord.Edit (r r' : MasterRecord) : Prop where
  policy : r'.policy = r.policy
  quota : r'.quota = r.quota
  state : r'.state = r.state ∨ r'.state = .online ∨ (r'.state = .held ∧ r.policy = .hold)
  counts : (∀ f ∈ r.faultRecord, 1 ≤ f.count ∧ f.count ≤ 255) → ∀ f ∈ r'.faultRecord, 1 ≤ f.count ∧ f.count ≤ 255
  order : r.order.Perm defaultOrder → r'.order.Perm defaultOrder

/-- The part of the law of the target ports that speaks of one port (R48, R51). -/
structure TargetPort.PhaseLaw (p : TargetPort) : Prop where
  idle : p.phase = .idle → p.running = none ∧ p.captured = none
  beat : p.phase = .beat → p.running.isSome = true
  busy : p.phase ≠ .idle → p.captured.isSome = true

/-- An edit of one target port that moves no access and keeps its settings, and its state but for a return to ONLINE. -/
structure TargetPort.Edit (p q : TargetPort) : Prop where
  queue : q.queue = p.queue
  access : q.running.map Running.access = p.running.map Running.access
  settings : q.settings = p.settings
  state : q.state = p.state ∨ q.state = .online
  law : p.PhaseLaw → q.PhaseLaw

/-! ### Moves -/

/-- A change of the tables that reaches no port, no mailbox and not the engine. -/
inductive TableMove (s : State) : State → Prop
  | window (i : Slot) (v : Window) (h : (s.window i).Edit s.timer.grace v) : TableMove s (s.setWindow i v)
  | record (m : Master) (r : MasterRecord) (h : (s.master m).Edit r) : TableMove s (s.setMaster m r)
  /-- SET_MASTER (R156). -/
  | settings (m : Master) (quota : Nat) (f : FaultPolicy) (d : Disposition) (hq : quota ≤ 32)
    (hf : m = 0 → f = .report) :
    TableMove s (s.setMaster m { s.master m with quota := quota, policy := f, disposition := d })
  | timer (t : LeaseTimer) (h : TimerInRange s.timer → TimerInRange t) : TableMove s { s with timer := t }
  | pointer (m : Master) : TableMove s { s with resolverPointer := m }
  | drst (b : Bool) : TableMove s { s with drst := b }

/-- A change of the ports: one access, or those of one target leaving service, goes on to its next place. -/
inductive PortMove (s : State) : State → Prop
  | accepted (m : Master) (r : Request) (h : s.mayAccept m r.tag = true) :
    PortMove s (s.setPort m ((s.port m).accept r))
  | returned (m : Master) : PortMove s (s.setPort m (s.port m).returnHead)
  | asserted (m : Master) : PortMove s (s.setPort m (s.port m).assertReset)
  | deasserted (m : Master) : PortMove s (s.setPort m (s.port m).deassertReset)
  /-- An unresolved access is answered at once. -/
  | refused (m : Master) (r : Request) (rest : List Request) (code : RespCode) (data : ReadData)
    (report : Option FaultReport) (h : (s.port m).unresolved = r :: rest) :
    PortMove s
      (answer m { tag := r.tag, code := code, data := data } report
        (s.setPort m { s.port m with unresolved := rest }))
  /-- An aperture access is answered. -/
  | served (m : Master) (r : Request) (rest : List Request) (code : RespCode) (data : ReadData)
    (report : Option FaultReport) (h : (s.port m).aperture = r :: rest) :
    PortMove s (answer m { tag := r.tag, code := code, data := data } report (popAperture m rest s))
  | hit (m : Master) (r : Request) (rest : List Request) (k : AccessKind) (f : Form) (i : Slot)
    (h : (s.port m).unresolved = r :: rest) (hw : (s.window i).state ≠ .free ∧ (s.window i).state ≠ .draining)
    (ht : (s.target (s.window i).target).state = .online) :
    PortMove s (hitAccess m r k f i (s.setPort m { s.port m with unresolved := rest }))
  | admitted (t : Target) (m : Master) (a : Resolved) (rest : List Resolved) (ht : (s.target t).state = .online)
    (hq : (s.target t).queue.length < 8) (h : (s.port m).waitingFor t = a :: rest) :
    PortMove s
      ((s.setPort m ((s.port m).setWaiting t rest)).setTarget t
        { s.target t with queue := (s.target t).queue ++ [a], pointer := m })
  | started (t : Target) (a : Resolved) (rest : List Resolved) (hp : (s.target t).phase = .idle)
    (ht : (s.target t).state = .online) (h : (s.target t).queue = a :: rest) :
    PortMove s
      (s.setTarget t
        { (s.target t).beginBeat with
          queue := rest
          running := some { access := a, beat := 0, bytes := [] }
          captured := some (s.target t).settings.capture })
  | target (t : Target) (p : TargetPort) (h : (s.target t).Edit p) : PortMove s (s.setTarget t p)
  /-- The access in progress ends. -/
  | ended (t : Target) (r : Running) (code : RespCode) (data : ReadData) (report : Option FaultReport)
    (hp : (s.target t).phase = .beat) (h : (s.target t).running = some r) :
    PortMove s
      (answer r.access.master { tag := r.access.tag, code := code, data := data } report
        (countOut r.access.slot (s.setTarget t { (s.target t).beginRecovery with running := none })))
  /-- A target leaves service. -/
  | down (t : Target) (state : TargetState) (h : state ≠ .online) :
    PortMove s (answerDown t (s.setTarget t { s.target t with state := state }))

/-- A change of the tables or of the ports. -/
inductive Move (s u : State) : Prop
  | table (h : TableMove s u)
  | port (h : PortMove s u)

/-- A sequence of moves. -/
def Moves : State → State → Prop := Relation.ReflTransGen Move

theorem Moves.refl (s : State) : Moves s s := Relation.ReflTransGen.refl

theorem Moves.trans {s t u : State} (h : Moves s t) (h' : Moves t u) : Moves s u := Relation.ReflTransGen.trans h h'

theorem TableMove.moves {s u : State} (h : TableMove s u) : Moves s u := .single (.table h)

theorem PortMove.moves {s u : State} (h : PortMove s u) : Moves s u := .single (.port h)

/-- What every move keeps, a sequence of moves keeps. -/
theorem Moves.keeps {P : State → Prop} (table : ∀ s u, TableMove s u → P s → P u)
    (port : ∀ s u, PortMove s u → P s → P u) {s u : State} (h : Moves s u) (hs : P s) : P u := by
  induction h with
  | refl => exact hs
  | tail _ move ih =>
    cases move with
    | table h => exact table _ _ h ih
    | port h => exact port _ _ h ih

/-- What every move keeps of the state before, a sequence of moves keeps of it. -/
theorem Moves.rel {R : State → State → Prop} (refl : ∀ s, R s s) (trans : ∀ s t u, R s t → R t u → R s u)
    (table : ∀ s u, TableMove s u → R s u) (port : ∀ s u, PortMove s u → R s u) {s u : State} (h : Moves s u) :
    R s u := by
  induction h with
  | refl => exact refl s
  | tail _ move ih =>
    cases move with
    | table h => exact trans _ _ _ ih (table _ _ h)
    | port h => exact trans _ _ _ ih (port _ _ h)

theorem foldl_moves {α : Type} {f : State → α → State} (hf : ∀ s a, Moves s (f s a)) (l : List α) (s : State) :
    Moves s (l.foldl f s) := by
  induction l generalizing s with
  | nil => exact .refl s
  | cons a l ih => exact (hf s a).trans (ih (f s a))

/-! ### Notices and windows -/

theorem MasterRecord.edit_notices (r : MasterRecord) (l : List Notice) : r.Edit { r with notices := l } :=
  ⟨rfl, rfl, .inl rfl, id, id⟩

theorem setWindow_moves {s : State} {i : Slot} {v : Window} (h : (s.window i).Edit s.timer.grace v) :
    Moves s (s.setWindow i v) := (TableMove.window i v h).moves

theorem setMaster_moves {s : State} {m : Master} {r : MasterRecord} (h : (s.master m).Edit r) :
    Moves s (s.setMaster m r) := (TableMove.record m r h).moves

theorem setTarget_moves {s : State} {t : Target} {p : TargetPort} (h : (s.target t).Edit p) :
    Moves s (s.setTarget t p) := (PortMove.target t p h).moves

theorem raiseNotice_moves (m : Master) (n : Notice) (s : State) : Moves s (raiseNotice m n s) :=
  setMaster_moves (MasterRecord.edit_notices _ _)

theorem removeNotice_moves (m : Master) (k : NoticeKind) (i : Slot) (s : State) : Moves s (removeNotice m k i s) :=
  setMaster_moves (MasterRecord.edit_notices _ _)

theorem withdrawOffer_moves (i : Slot) (s : State) : Moves s (withdrawOffer i s) := by
  unfold withdrawOffer
  dsimp only
  split
  case h_1 => exact .refl s
  case h_2 =>
    exact ((setWindow_moves .withdraw).trans (removeNotice_moves ..)).trans (raiseNotice_moves ..)

theorem declineOffer_moves (i : Slot) (s : State) : Moves s (declineOffer i s) := by
  unfold declineOffer
  dsimp only
  split
  case h_1 => exact .refl s
  case h_2 o ho =>
    exact ((setWindow_moves (.decline (by simp [ho]))).trans (removeNotice_moves ..)).trans (raiseNotice_moves ..)

/-- A live window that is not DRAINING. -/
def Window.Standing (w : Window) : Prop := w.live = true ∧ w.state ≠ .draining

theorem Window.standing_of_retirableOf {w : Window} {m : Master} (h : w.retirableOf m = true) : w.Standing := by
  refine ⟨Window.live_of_retirableOf h, fun hd => ?_⟩
  simp [Window.retirableOf, hd] at h

theorem Window.standing_of_state {w : Window} (h : w.state = .active ∨ w.state = .offered ∨ w.state = .lapsed) :
    w.Standing := by
  obtain h | h | h := h <;> simp [Window.Standing, Window.live, h]

theorem Window.Standing.of_state {w v : Window} (h : w.Standing) (e : v.state = w.state) : v.Standing := by
  unfold Window.Standing Window.live; rw [e]; exact h

theorem reactivate_withdrawOffer_moves {i : Slot} {s : State} (h : (s.window i).Standing) :
    Moves s (reactivate i (withdrawOffer i s)) := by
  have standing : ((withdrawOffer i s).window i).Standing := h.of_state (by simp)
  exact (withdrawOffer_moves i s).trans (setWindow_moves (.activate standing.1 standing.2))

theorem freeSlot_moves {i : Slot} {s : State} (c : RetireNotice) (h : (s.window i).inFlight = 0) :
    Moves s (freeSlot i c s) := by
  have freed := setWindow_moves (s := s) (i := i) (.free h)
  unfold freeSlot
  dsimp only
  split
  case isTrue => exact freed
  case isFalse => exact freed.trans (raiseNotice_moves ..)

/-- The part of a retirement before the window becomes FREE or DRAINING: the offer withdrawn, the countdowns cleared and
the holder told (R16 steps 1 to 3). -/
def retireAnnounced (c : RetireCause) (i : Slot) (s : State) : State :=
  let t := withdrawOffer i s
  let w := { t.window i with leaseRemaining := 0, warned := false, graceRemaining := 0 }
  if c.revokes w.holder then raiseNotice w.holder (slotNotice .windowRevoked i w.gen) (t.setWindow i w)
  else t.setWindow i w

theorem retireAnnounced_window (c : RetireCause) (i : Slot) (s : State) :
    (retireAnnounced c i s).window i =
      { s.window i with leaseRemaining := 0, warned := false, graceRemaining := 0, offer := none } := by
  unfold retireAnnounced
  dsimp only
  split <;> simp

theorem retire_eq (c : RetireCause) (i : Slot) (s : State) :
    retire c i s =
      if (s.window i).inFlight = 0 then freeSlot i c.freeNotice (retireAnnounced c i s)
      else (retireAnnounced c i s).setWindow i
        { (retireAnnounced c i s).window i with state := .draining, retireNotice := c.drainNotice } := by
  rw [retireAnnounced_window]
  simp [retire, retireAnnounced]

theorem retireAnnounced_moves (c : RetireCause) (i : Slot) (s : State) : Moves s (retireAnnounced c i s) := by
  have unwound := (withdrawOffer_moves i s).trans (setWindow_moves (i := i) .unwind)
  unfold retireAnnounced
  dsimp only
  split
  case isTrue => exact unwound.trans (raiseNotice_moves ..)
  case isFalse => exact unwound

theorem retire_moves {i : Slot} {s : State} (c : RetireCause) (h : (s.window i).live = true) :
    Moves s (retire c i s) := by
  refine (retireAnnounced_moves c i s).trans ?_
  rw [retire_eq]
  split
  case isTrue h0 => exact freeSlot_moves _ (by simpa [retireAnnounced_window] using h0)
  case isFalse h0 =>
    refine setWindow_moves (.drain _ ?_ ?_)
    · simpa [retireAnnounced_window, Window.live] using h
    · simpa [retireAnnounced_window] using h0

/-! ### The countdowns -/

theorem lapse_moves {i : Slot} {s : State} (h : (s.window i).Standing) : Moves s (lapse i s) := by
  have standing : ((withdrawOffer i s).window i).Standing := h.of_state (by simp)
  exact (((withdrawOffer_moves i s).trans (setWindow_moves (.lapse standing.1 standing.2))).trans
    (removeNotice_moves ..)).trans (raiseNotice_moves ..)

theorem leaseRunsOut_moves {i : Slot} {s : State} (h : (s.window i).Standing) : Moves s (leaseRunsOut i s) := by
  unfold leaseRunsOut
  split
  case isTrue => exact (removeNotice_moves ..).trans (retire_moves .leaseZero h.1)
  case isFalse => exact lapse_moves h

theorem leaseCountdown_moves {i : Slot} {s : State} (h : (s.window i).Standing) : Moves s (leaseCountdown i s) := by
  have counted : Moves s (s.setWindow i { s.window i with leaseRemaining := (s.window i).leaseRemaining - 1 }) :=
    setWindow_moves (.lease _ (Nat.sub_le _ _))
  unfold leaseCountdown
  dsimp only
  split
  case isTrue => exact counted.trans (leaseRunsOut_moves (h.of_state (by simp)))
  case isFalse =>
    split
    case isTrue =>
      refine (counted.trans (setWindow_moves ?_)).trans (raiseNotice_moves ..)
      rw [State.window_setWindow, if_pos rfl]
      exact .warn
    case isFalse => exact counted

theorem offerCountdown_moves {i : Slot} {s : State} (h : (s.window i).Standing) : Moves s (offerCountdown i s) := by
  unfold offerCountdown
  dsimp only
  split
  case h_1 => exact .refl s
  case h_2 o ho =>
    split
    case isTrue => exact (reactivate_withdrawOffer_moves h).trans (raiseNotice_moves ..)
    case isFalse ht => exact setWindow_moves (.ticks o ho ht)

theorem graceCountdown_moves {i : Slot} {s : State} (h : (s.window i).Standing) : Moves s (graceCountdown i s) := by
  have counted : Moves s (s.setWindow i { s.window i with graceRemaining := (s.window i).graceRemaining - 1 }) :=
    setWindow_moves (.grace _ (Nat.sub_le _ _))
  unfold graceCountdown
  dsimp only
  split
  case isTrue => exact counted.trans (retire_moves .graceZero (h.of_state (v := State.window _ i) (by simp)).1)
  case isFalse => exact counted

theorem slotTick_moves (i : Slot) (s : State) : Moves s (slotTick i s) := by
  have lease (h : (s.window i).Standing) :
      Moves s (if (s.window i).leasePeriod.isSome then leaseCountdown i s else s) := by
    split
    case isTrue => exact leaseCountdown_moves h
    case isFalse => exact .refl s
  have offer (t : State) : Moves t (if (t.window i).state == .offered then offerCountdown i t else t) := by
    split
    case isTrue h => exact offerCountdown_moves (Window.standing_of_state (.inr (.inl (by simpa using h))))
    case isFalse => exact .refl t
  unfold slotTick
  split
  case h_1 => exact .refl s
  case h_2 hs => exact lease (Window.standing_of_state (.inl hs))
  case h_3 hs => exact (lease (Window.standing_of_state (.inr (.inl hs)))).trans (offer _)
  case h_4 hs => exact graceCountdown_moves (Window.standing_of_state (.inr (.inr hs)))
  case h_5 => exact .refl s

theorem tableTick_moves (s : State) : Moves s (tableTick s) := foldl_moves (fun s i => slotTick_moves i s) _ s

theorem with_timer_moves {s : State} {t : LeaseTimer} (h : TimerInRange s.timer → TimerInRange t) :
    Moves s { s with timer := t } := (TableMove.timer t h).moves

/-- The count returns to 0. -/
theorem with_cycles_zero_moves (s : State) : Moves s { s with timer := { s.timer with cycles := 0 } } :=
  with_timer_moves fun ⟨hd, hm, hg, _⟩ => ⟨hd, hm, hg, by dsimp only; omega⟩

theorem timerCycle_moves (s : State) : Moves s (timerCycle s) := by
  unfold timerCycle
  split
  case isTrue => exact (with_cycles_zero_moves s).trans (tableTick_moves _)
  case isFalse h =>
    refine with_timer_moves fun ⟨hd, hm, hg, _⟩ => ⟨hd, hm, hg, ?_⟩
    simpa [Config.cyclesPerDivision] using h

/-! ### The target ports -/

/-- An edit of what is no part of the law: the lines, the counts and the lane enables. -/
theorem TargetPort.edit_of_fields {p q : TargetPort} (hq : q.queue = p.queue)
    (hr : q.running.map Running.access = p.running.map Running.access) (hs : q.settings = p.settings)
    (ht : q.state = p.state) (hp : q.phase = p.phase) (hc : q.captured = p.captured) : p.Edit q := by
  have idle : q.running = none ↔ p.running = none := by
    rw [← Option.map_eq_none_iff (f := Running.access), hr, Option.map_eq_none_iff]
  have busy : q.running.isSome = p.running.isSome := by
    rw [← Option.isSome_map (f := Running.access), hr, Option.isSome_map]
  refine ⟨hq, hr, hs, .inl ht, fun ⟨hi, hb, hy⟩ => ⟨?_, ?_, ?_⟩⟩
  · rw [hp, hc, idle]; exact hi
  · rw [hp, busy]; exact hb
  · rw [hp, hc]; exact hy

theorem setLines_moves (t : Target) (lines : TargetLines) (s : State) : Moves s (setLines t lines s) :=
  setTarget_moves (TargetPort.edit_of_fields rfl rfl rfl rfl rfl rfl)

theorem endBeat_moves {t : Target} {s : State} (error : Bool) (data : Word) (h : (s.target t).phase = .beat) :
    Moves s (endBeat t error data s) := by
  unfold endBeat
  split
  case h_1 r c hr hc =>
    split
    case isTrue => exact (PortMove.ended t r _ _ _ h hr).moves
    case isFalse =>
      dsimp only
      split
      case isTrue =>
        refine setTarget_moves ⟨rfl, by simp [hr], rfl, .inl rfl, fun _ => ⟨?_, ?_, ?_⟩⟩ <;>
          simp [TargetPort.beginRecovery, hc]
      case isFalse => exact (PortMove.ended t r _ _ _ h hr).moves
  case h_2 => exact .refl s

theorem waitCountEnds_moves {t : Target} {s : State} (h : (s.target t).phase = .beat) :
    Moves s (waitCountEnds t s) := by
  unfold waitCountEnds
  split
  case isTrue => exact endBeat_moves _ _ h
  case isFalse => exact setTarget_moves (TargetPort.edit_of_fields rfl rfl rfl rfl rfl rfl)

theorem recoveryEnds_moves {t : Target} {s : State} (h : (s.target t).phase = .recovery) :
    Moves s (recoveryEnds t s) := by
  unfold recoveryEnds
  split
  case h_1 r hr =>
    refine setTarget_moves ⟨rfl, rfl, rfl, .inl rfl, fun law => ⟨?_, ?_, ?_⟩⟩
    · simp [TargetPort.beginBeat]
    · simp [TargetPort.beginBeat, hr]
    · exact fun _ => law.busy (by simp [h])
  case h_2 hr =>
    refine setTarget_moves ⟨rfl, rfl, rfl, .inl rfl, fun _ => ⟨?_, ?_, ?_⟩⟩ <;> simp [hr]

theorem responseTimerExpires_moves {t : Target} {s : State} (h : (s.target t).phase = .beat) :
    Moves s (responseTimerExpires t s) := by
  unfold responseTimerExpires
  split
  case h_1 => exact .refl s
  case h_2 r hr =>
    have silent := (PortMove.ended t r (.fault .targetSilent) .zero (some (reportOf r.access .targetSilent)) h hr).moves
    exact (silent.trans (PortMove.down t .failed (by simp)).moves).trans (raiseNotice_moves ..)

theorem beatCycle_moves {t : Target} {s : State} (c : Captured) (h : (s.target t).phase = .beat) :
    Moves s (beatCycle t c s) := by
  have counted : Moves s (s.setTarget t { s.target t with count := (s.target t).count + 1 }) :=
    setTarget_moves (TargetPort.edit_of_fields rfl rfl rfl rfl rfl rfl)
  unfold beatCycle
  dsimp only
  split
  case isTrue =>
    split
    case isTrue => exact responseTimerExpires_moves h
    case isFalse =>
      split
      case isTrue => exact endBeat_moves _ _ h
      case isFalse => exact counted
  case isFalse =>
    split
    case isTrue => exact waitCountEnds_moves h
    case isFalse => exact counted

theorem skipRecovery_moves (t : Target) (s : State) : Moves s (skipRecovery t s) := by
  unfold skipRecovery
  split
  case isTrue h =>
    have hp : (s.target t).phase = .recovery := by
      simp only [TargetPort.recovered, Bool.and_eq_true, beq_iff_eq] at h
      exact h.1
    exact recoveryEnds_moves hp
  case isFalse => exact .refl s

theorem phaseCycle_moves (t : Target) (s : State) : Moves s (phaseCycle t s) := by
  unfold phaseCycle
  split
  case h_1 hp _ => exact beatCycle_moves _ hp
  case h_2 hp _ =>
    split
    case isTrue => exact recoveryEnds_moves hp
    case isFalse => exact setTarget_moves (TargetPort.edit_of_fields rfl rfl rfl rfl rfl rfl)
  case h_3 => exact .refl s

theorem targetCycle_moves (t : Target) (s : State) : Moves s (targetCycle t s) :=
  ((skipRecovery_moves t s).trans (phaseCycle_moves t _)).trans (skipRecovery_moves t _)

theorem fabricCycle_moves (s : State) : Moves s (fabricCycle s) := by
  unfold fabricCycle
  split
  case isTrue => exact .refl s
  case isFalse =>
    exact (foldl_moves (fun s t => targetCycle_moves t s) allTargets s).trans (timerCycle_moves _)

/-! ### Every slot -/

theorem declineOffersTo_moves (n : Master) (s : State) : Moves s (declineOffersTo n s) := by
  refine foldl_moves (fun s i => ?_) _ s
  split
  case isTrue => exact declineOffer_moves i s
  case isFalse => exact .refl s

theorem retireWindowsOf_moves (c : RetireCause) (n : Master) (s : State) : Moves s (retireWindowsOf c n s) := by
  refine foldl_moves (fun s i => ?_) _ s
  split
  case isTrue h => exact retire_moves c (Window.live_of_retirableOf h)
  case isFalse => exact .refl s

theorem withdrawOffersOf_moves (n : Master) (s : State) : Moves s (withdrawOffersOf n s) := by
  refine foldl_moves (fun s i => ?_) _ s
  split
  case isTrue h =>
    exact reactivate_withdrawOffer_moves (Window.standing_of_retirableOf (Bool.and_eq_true_iff.1 h).1)
  case isFalse => exact .refl s

theorem disposeWindows_moves (n : Master) (s : State) : Moves s (disposeWindows n s) := by
  unfold disposeWindows
  split
  case h_1 => exact retireWindowsOf_moves ..
  case h_2 => exact withdrawOffersOf_moves ..

/-! ### The resolver -/

/-- A hit is decided by a live window that is not DRAINING, for a target that is ONLINE (R32, R33). -/
theorem decideAt_hit {s : State} {i j : Slot} {k : AccessKind} (h : decideAt s i k = .hit j) :
    i = j ∧ (s.window j).state ≠ .draining ∧ (s.target (s.window j).target).state = .online := by
  unfold decideAt at h
  split_ifs at h with h1 h2 h3 h4
  obtain rfl : i = j := by simpa using h
  exact ⟨rfl, by simpa using h3, by simpa using h4⟩

theorem privateOver_live {s : State} {m : Master} {page : Nat} {i : Slot} (h : s.privateOver m page = some i) :
    (s.window i).state ≠ .free := by
  have found := List.find?_some h
  simp only [Bool.and_eq_true] at found
  exact Window.live_iff.1 found.1.1.1

theorem commonOver_live {s : State} {page : Nat} {i : Slot} (h : s.commonOver page = some i) :
    (s.window i).state ≠ .free := by
  have found := List.find?_some h
  simp only [Bool.and_eq_true] at found
  exact Window.live_iff.1 found.1.1

theorem decideAccess_hit {s : State} {m : Master} {page : Nat} {k : AccessKind} {i : Slot}
    (h : decideAccess s m page k = .hit i) :
    ((s.window i).state ≠ .free ∧ (s.window i).state ≠ .draining) ∧
      (s.target (s.window i).target).state = .online := by
  unfold decideAccess at h
  split at h
  case h_1 j hj =>
    obtain ⟨rfl, hd, ht⟩ := decideAt_hit h
    exact ⟨⟨privateOver_live hj, hd⟩, ht⟩
  case h_2 =>
    split at h
    case h_1 => cases h
    case h_2 j hj =>
      split at h
      case isTrue =>
        obtain ⟨rfl, hd, ht⟩ := decideAt_hit h
        exact ⟨⟨commonOver_live hj, hd⟩, ht⟩
      case isFalse => cases h

theorem takeAccess_moves {m : Master} {r : Request} {rest : List Request} {s : State}
    (h : (s.port m).unresolved = r :: rest) :
    Moves s (takeAccess m r (s.setPort m { s.port m with unresolved := rest })) := by
  have refused (code data report) := (PortMove.refused m r rest code data report h).moves
  unfold takeAccess
  split
  case h_1 =>
    unfold resolveAccess
    split
    case h_1 => exact refused ..
    case h_2 k f _ =>
      split
      case h_1 => exact refused ..
      case h_2 => exact refused ..
      case h_3 i hit =>
        obtain ⟨hw, ht⟩ := decideAccess_hit hit
        exact (PortMove.hit m r rest k f i h (by simpa using hw) (by simpa using ht)).moves
  case h_2 => exact refused ..
  case h_3 => exact refused ..

end Sys2Proof.Machine
end

section
/-! What a step can do, once for every row of the table: a sequence of moves, the completion of a command that comes to
such a sequence, or one of the changes that do more: the six commands that give a window or an offer what it did not
have, SET_TARGET, DETACH, the takings at a mailbox, the grant and the resets. -/

namespace Sys2Proof.Machine

open Sys2Proof.Safety

/-! ### The changes that do more -/

/-- The window `v` that a command of master `m` writes into slot `i`, where its checks passed: a claim, EXTEND,
SET_MEMBERS, OFFER or ACCEPT. -/
inductive SlotCommand (s : State) (m : Master) : CmdId → Slot → Window → Prop
  /-- CLAIM (R84, R85). -/
  | claim (p : Params) (i : Slot) (free : (s.window i).state = .free)
    (pass : ∀ c ∈ claimChecks m p s, c.1 = true) :
    SlotCommand s m .claim i (claimedWindow (s.window i).gen .priv m none p)
  /-- CLAIM_COMMON (R87). -/
  | claimCommon (p : Params) (i : Slot) (free : (s.window i).state = .free)
    (pass : ∀ c ∈ claimCommonChecks m p s, c.1 = true) :
    SlotCommand s m .claimCommon i (claimedWindow (s.window i).gen .common 0 (some (claimMembers p)) p)
  /-- EXTEND (R90, R91). -/
  | extend (p : Params) (pass : ∀ c ∈ extendChecks m p s, c.1 = true) :
    SlotCommand s m .extend (handleOf p.p0).slot
      { s.window (handleOf p.p0).slot with length := (s.window (handleOf p.p0).slot).length + extendPages p }
  /-- SET_MEMBERS (R96). -/
  | setMembers (p : Params) (pass : ∀ c ∈ setMembersChecks m p s, c.1 = true) :
    SlotCommand s m .setMembers (handleOf p.p0).slot
      { s.window (handleOf p.p0).slot with members := some (membersParam p) }
  /-- OFFER (R121, R122). -/
  | offer (p : Params) (pass : ∀ c ∈ offerChecks m p s, c.1 = true) :
    SlotCommand s m .offer (handleOf p.p0).slot
      { s.window (handleOf p.p0).slot with
        state := .offered, offer := some { recipient := recipientParam p, ticks := offerTicks p } }
  /-- ACCEPT (R125, R126). -/
  | accept (p : Params) (pass : ∀ c ∈ acceptChecks m p s, c.1 = true) :
    SlotCommand s m .accept (handleOf p.p0).slot (acceptedWindow m (s.window (handleOf p.p0).slot))

/-- What the taking of an aperture write makes of the mailbox of master `m` (R70, R71, R73). -/
inductive MailboxWrite (s : State) (m : Master) : Mailbox → Prop
  | param (n : Fin 4) (w : Word) :
    MailboxWrite s m { s.mailbox m with live := (s.mailbox m).live.set n w }
  | submission (w : Word) (h : (s.mailbox m).state = .empty ∨ (s.mailbox m).state = .done) :
    MailboxWrite s m (submitted m (s.master m).state (s.mailbox m) w)

/-- What a step that is no device reset can do. -/
inductive Row (s : State) : State → Prop
  | moves {u : State} (h : Moves s u) : Row s u
  | completion (x : Execution) (c : Completion) (hx : s.engine.execution = some x) (h : Moves s c.state) :
    Row s (finish x c)
  | slot (x : Execution) (c : Completion) (id : CmdId) (i : Slot) (v : Window) (hx : Executing s x id)
    (hv : SlotCommand s x.master id i v) (hq : ∀ m, (c.state.master m).quota = (s.master m).quota)
    (h : Moves (s.setWindow i v) c.state) : Row s (finish x c)
  /-- SET_TARGET (R61). -/
  | resized (x : Execution) (c : Completion) (p : Params) (hx : s.engine.execution = some x)
    (pass : ∀ check ∈ setTargetChecks x.master p s, check.1 = true)
    (h : c.state = s.setTarget (targetParam p.p0)
      { s.target (targetParam p.p0) with
        settings := (settingsParam p).getD (s.target (targetParam p.p0)).settings }) : Row s (finish x c)
  /-- DETACH (R159). -/
  | detached (x : Execution) (c : Completion) (n : Master) (hx : s.engine.execution = some x) (hm : x.master = 0)
    (hn : n ≠ 0) (h : c.state = detachEffect n s) : Row s (finish x c)
  | granted (m : Master) (hx : s.engine.execution = none) (hm : (s.mailbox m).state = .submitted) :
    Row s
      { s.setMailbox m { s.mailbox m with state := .executing } with
        engine :=
          { execution := some
              { master := m, command := (s.mailbox m).command.getD 0#8, params := (s.mailbox m).captured,
                orphan := false }
            pointer := m } }
  | written {u : State} (m : Master) (b : Mailbox) (hb : MailboxWrite s m b) (h : Moves (s.setMailbox m b) u) : Row s u
  | masterReset {u : State} (n : Master)
    (h : Moves (resetMailboxOf n (s.setPort n (s.port n).assertReset)) u) : Row s u

/-! ### Completions -/

section
variable {s u : State}

theorem Row.refl (s : State) : Row s s := .moves (.refl s)

/-- A completion in which the body is one of the changes. -/
theorem completeCommand_row {id : CmdId} {body : Master → Params → State → Completion}
    (h : ∀ x, Executing s x id → Row s (finish x (body x.master x.params s))) : Row s (completeCommand id body s) := by
  unfold completeCommand
  split
  case h_1 => exact .refl s
  case h_2 x hx =>
    split
    case isTrue hid => exact h x ⟨hx, hid⟩
    case isFalse => exact .refl s

/-- A completion whose body comes to moves. -/
theorem completeCommand_row_of_moves {id : CmdId} {body : Master → Params → State → Completion}
    (h : ∀ m p, Moves s (body m p s).state) : Row s (completeCommand id body s) :=
  completeCommand_row fun x hx => .completion x _ hx.1 (h x.master x.params)

/-- A checked command: its effect where every check passes, or the refusal, which leaves the tables. -/
theorem finish_checked_row {x : Execution} {l : List (Bool × ResultCode)} {c : Completion}
    (hx : s.engine.execution = some x) (h : (∀ k ∈ l, k.1 = true) → Row s (finish x c)) :
    Row s (finish x (checked l s c)) := by
  obtain ⟨pass, e⟩ | e := checked_cases l s c
  · rw [e]; exact h pass
  · exact .completion x _ hx (by rw [e]; exact .refl s)

theorem checked_moves {l : List (Bool × ResultCode)} {c : Completion} (h : (∀ k ∈ l, k.1 = true) → Moves s c.state) :
    Moves s (checked l s c).state := by
  obtain ⟨pass, e⟩ | e := checked_cases l s c
  · rw [e]; exact h pass
  · rw [e]; exact .refl s

/-! ### The commands -/

theorem claimBody_row {x : Execution} (hx : Executing s x .claim) :
    Row s (finish x (claimBody x.master x.params s)) := by
  refine finish_checked_row hx.1 fun pass => ?_
  unfold claimSlot
  split
  case h_1 => exact .completion x _ hx.1 (.refl s)
  case h_2 i found =>
    exact .slot x _ .claim i _ hx (.claim x.params i (by simpa using List.find?_some found) pass) (fun _ => rfl)
      (.refl _)

theorem claimCommonBody_row {x : Execution} (hx : Executing s x .claimCommon) :
    Row s (finish x (claimCommonBody x.master x.params s)) := by
  refine finish_checked_row hx.1 fun pass => ?_
  unfold claimSlot
  split
  case h_1 => exact .completion x _ hx.1 (.refl s)
  case h_2 i found =>
    exact .slot x _ .claimCommon i _ hx
      (.claimCommon x.params i (by simpa using List.find?_some found) pass) (fun _ => rfl)
      (.refl _)

theorem extendBody_row {x : Execution} (hx : Executing s x .extend) :
    Row s (finish x (extendBody x.master x.params s)) :=
  finish_checked_row hx.1 fun pass => .slot x _ .extend _ _ hx (.extend x.params pass) (fun _ => rfl) (.refl _)

theorem setMembersBody_row {x : Execution} (hx : Executing s x .setMembers) :
    Row s (finish x (setMembersBody x.master x.params s)) :=
  finish_checked_row hx.1 fun pass => .slot x _ .setMembers _ _ hx (.setMembers x.params pass) (fun _ => rfl) (.refl _)

theorem offerBody_row {x : Execution} (hx : Executing s x .offer) :
    Row s (finish x (offerBody x.master x.params s)) :=
  finish_checked_row hx.1 fun pass =>
    .slot x _ .offer _ _ hx (.offer x.params pass) (fun _ => by simp) (raiseNotice_moves ..)

theorem acceptBody_row {x : Execution} (hx : Executing s x .accept) :
    Row s (finish x (acceptBody x.master x.params s)) :=
  finish_checked_row hx.1 fun pass =>
    .slot x _ .accept _ _ hx (.accept x.params pass) (fun _ => by simp)
      ((removeNotice_moves ..).trans (raiseNotice_moves ..))

theorem setTargetBody_row {x : Execution} (hx : Executing s x .setTarget) :
    Row s (finish x (setTargetBody x.master x.params s)) :=
  finish_checked_row hx.1 fun pass => .resized x _ x.params hx.1 pass rfl

theorem detachBody_row {x : Execution} (hx : Executing s x .detach) :
    Row s (finish x (detachBody x.master x.params s)) := by
  refine finish_checked_row hx.1 fun pass => ?_
  obtain ⟨hm, -, -, hn⟩ : x.master = 0 ∧ masterInRange x.params.p0 = true ∧
      (s.master (masterParam x.params.p0)).state ≠ .offline ∧ masterParam x.params.p0 ≠ 0 := by
    simpa [detachChecks, supervisorCheck] using pass
  exact .detached x _ (masterParam x.params.p0) hx.1 hm hn (by dsimp only)

theorem releaseBody_moves (m : Master) (p : Params) (s : State) : Moves s (releaseBody m p s).state :=
  checked_moves fun pass => retire_moves .release (live_of_currentCheck pass (by simp [releaseChecks]))

theorem revokeBody_moves (m : Master) (p : Params) (s : State) : Moves s (revokeBody m p s).state :=
  checked_moves fun pass => retire_moves .revoke (live_of_currentCheck pass (by simp [revokeChecks]))

theorem withdrawBody_moves (m : Master) (p : Params) (s : State) : Moves s (withdrawBody m p s).state :=
  checked_moves fun pass => by
    have offered : (s.window (handleOf p.p0).slot).state = .offered := by
      simpa using pass ((s.window (handleOf p.p0).slot).state == .offered, .wrongState) (by simp [withdrawChecks])
    exact reactivate_withdrawOffer_moves (Window.standing_of_state (.inr (.inl offered)))

theorem declineBody_moves (m : Master) (p : Params) (s : State) : Moves s (declineBody m p s).state :=
  checked_moves fun _ => declineOffer_moves ..

theorem renewBody_moves (m : Master) (p : Params) (s : State) : Moves s (renewBody m p s).state :=
  checked_moves fun pass => by
    have standing : (s.window (handleOf p.p0).slot).Standing := by
      have h := pass (renewable (s.window (handleOf p.p0).slot), .wrongState) (by simp [renewChecks])
      simp only [renewable, Bool.and_eq_true, Bool.or_eq_true, beq_iff_eq, or_assoc] at h
      exact Window.standing_of_state h.1
    exact (setWindow_moves (.renew standing.1 standing.2)).trans (removeNotice_moves ..)

theorem findHeldBody_moves (m : Master) (p : Params) (s : State) : Moves s (findHeldBody m p s).state := by
  refine checked_moves fun _ => ?_
  split <;> exact .refl s

theorem setLeaseClockBody_moves (m : Master) (p : Params) (s : State) : Moves s (setLeaseClockBody m p s).state := by
  refine checked_moves fun _ => with_timer_moves fun _ => ⟨?_, ?_, ?_, ?_⟩ <;> simp only [newTimer, bits]
  · exact Nat.le_of_lt_succ (BitVec.isLt _)
  · exact Nat.le_of_lt_succ (BitVec.isLt _)
  · exact Nat.le_of_lt_succ (BitVec.isLt _)
  · omega

theorem clearFaultBody_moves (m : Master) (p : Params) (s : State) : Moves s (clearFaultBody m p s).state := by
  refine (setMaster_moves ?_).trans (removeNotice_moves ..)
  exact ⟨rfl, rfl, .inl rfl, by simp, id⟩

theorem releaseHoldBody_moves (m : Master) (p : Params) (s : State) : Moves s (releaseHoldBody m p s).state :=
  checked_moves fun _ => setMaster_moves ⟨rfl, rfl, .inr (.inl rfl), id, id⟩

theorem attachBody_moves (m : Master) (p : Params) (s : State) : Moves s (attachBody m p s).state :=
  checked_moves fun _ => setMaster_moves ⟨rfl, rfl, .inr (.inl rfl), id, id⟩

theorem takeNoticeBody_moves (m : Master) (p : Params) (s : State) : Moves s (takeNoticeBody m p s).state := by
  unfold takeNoticeBody
  split
  case h_1 => exact .refl s
  case h_2 => exact setMaster_moves (MasterRecord.edit_notices _ _)

theorem setNoticeEnableBody_moves (m : Master) (p : Params) (s : State) :
    Moves s (setNoticeEnableBody m p s).state :=
  checked_moves fun _ => setMaster_moves ⟨rfl, rfl, .inl rfl, id, id⟩

/-- The numbers of the eleven kinds. -/
theorem defaultOrder_numbers : defaultOrder.map NoticeKind.number = [1, 2, 3, 4, 5, 6, 7, 8, 9, 10, 11] := rfl

/-- A number from 1 to 11 names the kind of that number. -/
theorem NoticeKind.ofNumber_number (k : NoticeKind) : NoticeKind.ofNumber k.number = some k := by cases k <;> rfl

/-- The numbers 1 to 11 in some order name the eleven kinds in some order. -/
theorem filterMap_ofNumber_perm {l : List Nat} (h : l.Perm [1, 2, 3, 4, 5, 6, 7, 8, 9, 10, 11]) :
    (l.filterMap NoticeKind.ofNumber).Perm defaultOrder :=
  h.filterMap NoticeKind.ofNumber

/-- Eleven different numbers from 1 to 11 are those numbers in some order. -/
theorem perm_of_nodup_of_range {l : List Nat} (length : l.length = 11) (range : ∀ n ∈ l, 1 ≤ n ∧ n ≤ 11)
    (nodup : l.Nodup) : l.Perm [1, 2, 3, 4, 5, 6, 7, 8, 9, 10, 11] := by
  have sub : l ⊆ [1, 2, 3, 4, 5, 6, 7, 8, 9, 10, 11] := by
    intro n hn
    have := range n hn
    simp only [List.mem_cons, List.not_mem_nil, or_false]
    omega
  exact (List.subperm_of_subset nodup sub).perm_of_length_le (by simp [length])

theorem orderParam_perm {p : Params} (h : noticeOrderInRange p = true) : (orderParam p).Perm defaultOrder := by
  simp only [noticeOrderInRange, Bool.and_eq_true, List.all_eq_true, decide_eq_true_eq] at h
  obtain ⟨⟨-, range⟩, nodup⟩ := h
  exact filterMap_ofNumber_perm (perm_of_nodup_of_range rfl range nodup)

theorem setNoticeOrderBody_moves (m : Master) (p : Params) (s : State) :
    Moves s (setNoticeOrderBody m p s).state :=
  checked_moves fun pass =>
    setMaster_moves ⟨rfl, rfl, .inl rfl, id, fun _ => orderParam_perm (by simpa using pass)⟩

theorem setMasterBody_moves (m : Master) (p : Params) (s : State) : Moves s (setMasterBody m p s).state := by
  refine checked_moves fun pass => (TableMove.settings _ _ _ _ ?_ fun h0 => ?_).moves
  all_goals
    have range : setMasterInRange p = true := pass (setMasterInRange p, .badParam) (by simp)
    simp only [setMasterInRange, masterInRange, Bool.and_eq_true, decide_eq_true_eq] at range
    obtain ⟨⟨⟨⟨-, number⟩, -⟩, quota⟩, hold⟩ := range
  · exact quota
  · have zero : bits p.p0 2 0 = 0 := by
      have := congrArg Fin.val h0
      simp only [masterParam, Fin.val_ofNat, Fin.val_zero] at this
      omega
    cases hp : policyParam p
    · rfl
    · simp [zero, hp] at hold

theorem targetOnlineBody_moves (m : Master) (p : Params) (s : State) : Moves s (targetOnlineBody m p s).state := by
  refine checked_moves fun _ => (setTarget_moves ?_).trans (removeNotice_moves ..)
  exact ⟨rfl, rfl, rfl, .inr rfl, fun ⟨hi, hb, hy⟩ => ⟨hi, hb, hy⟩⟩

theorem targetOfflineBody_moves (m : Master) (p : Params) (s : State) : Moves s (targetOfflineBody m p s).state :=
  checked_moves fun _ => (PortMove.down _ .offline (by simp)).moves

/-- A command that only reports. -/
theorem checked_report_moves {l : List (Bool × ResultCode)} {code : ResultCode} {words : ResultWords} :
    Moves s (checked l s { state := s, code := code, words := words }).state :=
  checked_moves fun _ => .refl s

/-! ### The other rows -/

theorem execRequestAcceptance_row {m : Master} {r : Request} (h : execRequestAcceptance m r s = .next u) :
    Row s u := by
  obtain rfl := Host.Outcome.next.inj h
  split
  case isTrue hm => exact .moves (PortMove.accepted m r hm).moves
  case isFalse => exact .refl s

theorem execResolution_row (h : execResolution s = .next u) : Row s u := by
  obtain rfl := Host.Outcome.next.inj h
  split
  case h_1 => exact .refl s
  case h_2 m _ =>
    split
    case h_1 => exact .refl s
    case h_2 r rest hr =>
      exact .moves ((TableMove.pointer m).moves.trans (takeAccess_moves (s := { s with resolverPointer := m }) hr))

theorem execAdmission_row {t : Target} (h : execAdmission t s = .next u) : Row s u := by
  obtain rfl := Host.Outcome.next.inj h
  split
  case isFalse => exact .refl s
  case isTrue room =>
    simp only [Bool.and_eq_true, beq_iff_eq, Config.queueDepth] at room
    split
    case h_1 => exact .refl s
    case h_2 m _ =>
      split
      case h_1 => exact .refl s
      case h_2 a rest ha => exact .moves (PortMove.admitted t m a rest room.1 (of_decide_eq_true room.2) ha).moves

theorem execAccessStart_row {t : Target} (h : execAccessStart t s = .next u) : Row s u := by
  obtain rfl := Host.Outcome.next.inj h
  split
  case isFalse => exact .refl s
  case isTrue ready =>
    simp only [Bool.and_eq_true, beq_iff_eq] at ready
    split
    case h_1 => exact .refl s
    case h_2 a rest ha => exact .moves (PortMove.started t a rest ready.1 ready.2 ha).moves

/-- A port in its wait count or held after it is in BEAT. -/
theorem TargetPort.beat_of_inWait {p : TargetPort} (h : p.inWait = true) : p.phase = .beat := by
  simp only [TargetPort.inWait, Bool.and_eq_true, beq_iff_eq] at h; exact h.1

theorem TargetPort.beat_of_inHold {p : TargetPort} (h : p.inHold = true) : p.phase = .beat := by
  simp only [TargetPort.inHold, Bool.and_eq_true, beq_iff_eq] at h; exact h.1

theorem setLines_phase (t : Target) (lines : TargetLines) (s : State) :
    ((setLines t lines s).target t).phase = (s.target t).phase := by simp [setLines]

theorem execWaitCountEnd_row {t : Target} {ready error : Bool} {data : Word}
    (h : execWaitCountEnd t ready error data s = .next u) : Row s u := by
  obtain rfl := Host.Outcome.next.inj h
  split
  case isTrue hw =>
    exact .moves ((setLines_moves ..).trans
      (waitCountEnds_moves ((setLines_phase ..).trans (TargetPort.beat_of_inWait hw))))
  case isFalse => exact .refl s

theorem execBeatEnd_row {t : Target} {error : Bool} {data : Word} (h : execBeatEnd t error data s = .next u) :
    Row s u := by
  obtain rfl := Host.Outcome.next.inj h
  split
  case isTrue hh =>
    exact .moves ((setLines_moves ..).trans
      (endBeat_moves _ _ ((setLines_phase ..).trans (TargetPort.beat_of_inHold hh))))
  case isFalse => exact .refl s

theorem execRecoveryEnd_row {t : Target} (h : execRecoveryEnd t s = .next u) : Row s u := by
  obtain rfl := Host.Outcome.next.inj h
  split
  case isTrue hp => exact .moves (recoveryEnds_moves (by simpa using hp))
  case isFalse => exact .refl s

theorem execResponseTimerExpiry_row {t : Target} (h : execResponseTimerExpiry t s = .next u) : Row s u := by
  obtain rfl := Host.Outcome.next.inj h
  split
  case isTrue hh =>
    exact .moves ((setLines_moves ..).trans
      (responseTimerExpires_moves ((setLines_phase ..).trans (TargetPort.beat_of_inHold hh))))
  case isFalse => exact .refl s

/-- An answer and a write of a mailbox do not reach one record. -/
theorem answer_setMailbox (m n : Master) (r : Response) (report : Option FaultReport) (b : Mailbox) (s : State) :
    answer m r report (s.setMailbox n b) = (answer m r report s).setMailbox n b := by
  unfold answer
  rw [State.port_setMailbox]
  split
  case isTrue => rfl
  case isFalse => cases report <;> rfl

/-- The taking of an aperture access that is answered and leaves the mailboxes. -/
theorem served_row {m : Master} {r : Request} {rest : List Request} (h : (s.port m).aperture = r :: rest)
    (code : RespCode) (data : ReadData) (report : Option FaultReport) :
    Row s (answer m { tag := r.tag, code := code, data := data } report (popAperture m rest s)) :=
  .moves (PortMove.served m r rest code data report h).moves

/-- The taking of an aperture write that is acknowledged and writes the mailbox. -/
theorem acknowledged_row {m : Master} {r : Request} {rest : List Request} {b : Mailbox}
    (h : (s.port m).aperture = r :: rest) (hb : MailboxWrite s m b) :
    Row s (acknowledge m r ((popAperture m rest s).setMailbox m b)) :=
  .written m b hb
    (PortMove.served (s := s.setMailbox m b) m r rest .ok .zero none h).moves

theorem execParameterWrite_row {m : Master} (h : execParameterWrite m s = .next u) : Row s u := by
  obtain rfl := Host.Outcome.next.inj h
  split
  case h_1 => exact .refl s
  case h_2 r rest ha =>
    split
    case h_1 => exact served_row ha ..
    case h_2 n w _ => exact acknowledged_row ha (.param n w)
    case h_3 => exact .refl s
    case h_4 => exact .refl s

theorem submitCommand_row {m : Master} {r : Request} {rest : List Request} (w : Word)
    (h : (s.port m).aperture = r :: rest) : Row s (submitCommand m r w (popAperture m rest s)) := by
  unfold submitCommand
  split
  case h_1 => exact served_row h ..
  case h_2 => exact served_row h ..
  case h_3 hs => exact acknowledged_row h (.submission w (.inl hs))
  case h_4 hs => exact acknowledged_row h (.submission w (.inr hs))

theorem execCommandSubmission_row {m : Master} (h : execCommandSubmission m s = .next u) : Row s u := by
  obtain rfl := Host.Outcome.next.inj h
  split
  case h_1 => exact .refl s
  case h_2 r rest ha =>
    split
    case h_1 => exact served_row ha ..
    case h_2 w _ => exact submitCommand_row w ha
    case h_3 => exact .refl s
    case h_4 => exact .refl s

theorem execApertureAccessTaking_row {m : Master} (h : execApertureAccessTaking m s = .next u) : Row s u := by
  obtain rfl := Host.Outcome.next.inj h
  split
  case h_1 => exact .refl s
  case h_2 r rest ha =>
    split
    case h_1 => exact served_row ha ..
    case h_2 => exact served_row ha ..
    case h_3 => exact .refl s
    case h_4 => exact .refl s

theorem execEngineGrant_row (h : execEngineGrant s = .next u) : Row s u := by
  obtain rfl := Host.Outcome.next.inj h
  split
  case h_1 => exact .refl s
  case h_2 idle =>
    split
    case h_1 => exact .refl s
    case h_2 m next => exact .granted m idle (by simpa using nextInTurn_wants next)

theorem execBadCommand_row (h : execBadCommand s = .next u) : Row s u := by
  obtain rfl := Host.Outcome.next.inj h
  split
  case h_1 => exact .refl s
  case h_2 x hx =>
    split
    case isTrue => exact .completion x _ hx (.refl s)
    case isFalse => exact .refl s

theorem execLeaseTick_row (h : execLeaseTick s = .next u) : Row s u := by
  obtain rfl := Host.Outcome.next.inj h
  split
  case isTrue => exact .refl s
  case isFalse => exact .moves ((with_cycles_zero_moves s).trans (tableTick_moves _))

theorem execLeaseExpiry_row {i : Slot} (h : execLeaseExpiry i s = .next u) : Row s u := by
  obtain rfl := Host.Outcome.next.inj h
  split
  case isTrue due =>
    simp only [leaseDue, Bool.and_eq_true, Bool.or_eq_true, beq_iff_eq] at due
    obtain ⟨-, ⟨state, -⟩, -⟩ := due
    exact .moves (leaseCountdown_moves (Window.standing_of_state (state.imp_right .inl)))
  case isFalse => exact .refl s

theorem execGraceExpiry_row {i : Slot} (h : execGraceExpiry i s = .next u) : Row s u := by
  obtain rfl := Host.Outcome.next.inj h
  split
  case isTrue due =>
    simp only [Bool.and_eq_true, beq_iff_eq] at due
    exact .moves (graceCountdown_moves (Window.standing_of_state (.inr (.inr due.1.2))))
  case isFalse => exact .refl s

theorem execOfferExpiry_row {i : Slot} (h : execOfferExpiry i s = .next u) : Row s u := by
  obtain rfl := Host.Outcome.next.inj h
  split_ifs with due
  · simp only [Bool.and_eq_true, beq_iff_eq] at due
    exact .moves (offerCountdown_moves (Window.standing_of_state (.inr (.inl due.1.2))))
  · exact .refl s

theorem execMasterReset_row {n : Master} (h : execMasterReset n s = .next u) : Row s u := by
  obtain rfl := Host.Outcome.next.inj h
  split
  case isTrue => exact .refl s
  case isFalse =>
    refine .masterReset n (((setMaster_moves ?_).trans (declineOffersTo_moves n _)).trans (disposeWindows_moves n _))
    exact ⟨rfl, rfl, .inl rfl, by simp, fun _ => .refl _⟩

theorem execMasterResetDeassertion_row {n : Master} (h : execMasterResetDeassertion n s = .next u) : Row s u := by
  obtain rfl := Host.Outcome.next.inj h
  split
  case isTrue => exact .moves (PortMove.deasserted n).moves
  case isFalse => exact .refl s

/-! ### Every step -/

/-- Every row of the table but the device reset is one of the changes. -/
theorem exec_row {c : Instr} (hc : c ≠ .deviceReset) (h : exec c s = .next u) : Row s u := by
  cases c with
  | requestAcceptance => exact execRequestAcceptance_row h
  | resolution => exact execResolution_row h
  | admission => exact execAdmission_row h
  | accessStart => exact execAccessStart_row h
  | waitCountEnd => exact execWaitCountEnd_row h
  | beatEnd => exact execBeatEnd_row h
  | recoveryEnd => exact execRecoveryEnd_row h
  | responseTimerExpiry => exact execResponseTimerExpiry_row h
  | responseReturn => cases h; exact .moves (PortMove.returned _).moves
  | parameterWrite => exact execParameterWrite_row h
  | engineGrant => exact execEngineGrant_row h
  | badCommand => exact execBadCommand_row h
  | claim => cases h; exact completeCommand_row fun _ => claimBody_row
  | claimCommon => cases h; exact completeCommand_row fun _ => claimCommonBody_row
  | extend => cases h; exact completeCommand_row fun _ => extendBody_row
  | release => cases h; exact completeCommand_row_of_moves fun m p => releaseBody_moves m p s
  | revoke => cases h; exact completeCommand_row_of_moves fun m p => revokeBody_moves m p s
  | setMembers => cases h; exact completeCommand_row fun _ => setMembersBody_row
  | query => cases h; exact completeCommand_row_of_moves fun _ _ => checked_report_moves
  | queryAddress => cases h; exact completeCommand_row_of_moves fun _ _ => checked_report_moves
  | findHeld => cases h; exact completeCommand_row_of_moves fun m p => findHeldBody_moves m p s
  | renew => cases h; exact completeCommand_row_of_moves fun m p => renewBody_moves m p s
  | setLeaseClock => cases h; exact completeCommand_row_of_moves fun m p => setLeaseClockBody_moves m p s
  | offer => cases h; exact completeCommand_row fun _ => offerBody_row
  | withdraw => cases h; exact completeCommand_row_of_moves fun m p => withdrawBody_moves m p s
  | accept => cases h; exact completeCommand_row fun _ => acceptBody_row
  | decline => cases h; exact completeCommand_row_of_moves fun m p => declineBody_moves m p s
  | readFault => cases h; exact completeCommand_row_of_moves fun _ _ => .refl s
  | clearFault => cases h; exact completeCommand_row_of_moves fun m p => clearFaultBody_moves m p s
  | releaseHold => cases h; exact completeCommand_row_of_moves fun m p => releaseHoldBody_moves m p s
  | takeNotice => cases h; exact completeCommand_row_of_moves fun m p => takeNoticeBody_moves m p s
  | setNoticeOrder => cases h; exact completeCommand_row_of_moves fun m p => setNoticeOrderBody_moves m p s
  | setNoticeEnable => cases h; exact completeCommand_row_of_moves fun m p => setNoticeEnableBody_moves m p s
  | setMaster => cases h; exact completeCommand_row_of_moves fun m p => setMasterBody_moves m p s
  | queryMaster => cases h; exact completeCommand_row_of_moves fun _ _ => checked_report_moves
  | detach => cases h; exact completeCommand_row fun _ => detachBody_row
  | attach => cases h; exact completeCommand_row_of_moves fun m p => attachBody_moves m p s
  | setTarget => cases h; exact completeCommand_row fun _ => setTargetBody_row
  | targetOnline => cases h; exact completeCommand_row_of_moves fun m p => targetOnlineBody_moves m p s
  | targetOffline => cases h; exact completeCommand_row_of_moves fun m p => targetOfflineBody_moves m p s
  | queryTarget => cases h; exact completeCommand_row_of_moves fun _ _ => checked_report_moves
  | leaseTick => exact execLeaseTick_row h
  | leaseExpiry => exact execLeaseExpiry_row h
  | graceExpiry => exact execGraceExpiry_row h
  | offerExpiry => exact execOfferExpiry_row h
  | masterReset => exact execMasterReset_row h
  | masterResetDeassertion => exact execMasterResetDeassertion_row h
  | deviceReset => exact absurd rfl hc
  | deviceResetDeassertion => cases h; exact .moves (TableMove.drst false).moves
  | commandSubmission => exact execCommandSubmission_row h
  | apertureAccessTaking => exact execApertureAccessTaking_row h

/-- A step is a device reset or one of the changes, from a state that differs from the one before in the queue alone. -/
theorem step_row (h : step s = .next u) :
    (s.pending.head? = some .deviceReset ∧ ∃ q, u = assertDeviceReset { s with pending := q }) ∨
      ∃ q, Row { s with pending := q } u := by
  obtain ⟨-, rfl⟩ | ⟨c, rest, e, hc⟩ := step_cases h
  · exact .inr ⟨s.pending, .moves (fabricCycle_moves s)⟩
  · by_cases hd : c = .deviceReset
    · subst hd
      exact .inl ⟨by rw [e]; rfl, rest, (Host.Outcome.next.inj hc).symm⟩
    · exact .inr ⟨rest, exec_row hd hc⟩

/-- An invariant that does not speak of the queue, that holds after a device reset and that every change keeps is kept by
every step. -/
theorem keeps_of_row {P : State → Prop} (reset : ∀ s, P (assertDeviceReset s)) (row : ∀ s u, Row s u → P s → P u)
    (queue : ∀ (s : State) q, P s → P { s with pending := q }) (h : step s = .next u) (hs : P s) : P u := by
  obtain ⟨-, q, rfl⟩ | ⟨q, hr⟩ := step_row h
  · exact reset _
  · exact row _ _ hr (queue s q hs)

end

end Sys2Proof.Machine
end

section
/-! What the moves leave: the records they do not reach, the windows, of which none becomes live or changes its shape,
and the master records, of which none becomes OFFLINE. -/

namespace Sys2Proof.Machine

open Sys2Proof.Safety

section
variable {s u : State}

/-! ### Frames -/

theorem TableMove.port (h : TableMove s u) (m : Master) : u.port m = s.port m := by cases h <;> rfl

theorem TableMove.target (h : TableMove s u) (t : Target) : u.target t = s.target t := by cases h <;> rfl

theorem TableMove.mailbox (h : TableMove s u) (m : Master) : u.mailbox m = s.mailbox m := by cases h <;> rfl

theorem TableMove.engine (h : TableMove s u) : u.engine = s.engine := by cases h <;> rfl

/-- The state in which the accesses of a target that leaves service are answered: its queue and waiting lists empty. -/
def State.unlisted (s : State) (t : Target) : State :=
  allMasters.foldl (fun s m => s.setPort m ((s.port m).setWaiting t []))
    (s.setTarget t { s.target t with queue := [] })

theorem answerDown_eq (t : Target) (s : State) :
    answerDown t s =
      ((s.target t).queue ++ s.waitingAt t).foldl (fun s a => endFaulted .targetDown a s) (s.unlisted t) := rfl

/-- What every change of the parts of a port move keeps, the move keeps: replacing ports and targets, entering reports,
counting accesses in and out. -/
theorem PortMove.rel {R : State → State → Prop} (refl : ∀ s, R s s) (trans : ∀ s t u, R s t → R t u → R s u)
    (port : ∀ s m p, R s (s.setPort m p)) (target : ∀ s t p, R s (s.setTarget t p))
    (report : ∀ s m f, R s (enterReport m f s)) (countOut : ∀ s i, R s (countOut i s))
    (countIn : ∀ s i, R s (s.setWindow i { s.window i with inFlight := (s.window i).inFlight + 1 }))
    (h : PortMove s u) : R s u := by
  have answered (s : State) (m : Master) (r : Response) (o : Option FaultReport) : R s (answer m r o s) := by
    unfold answer
    split
    case isTrue => exact port ..
    case isFalse =>
      cases o with
      | none => exact port ..
      | some f => exact trans _ _ _ (port ..) (report ..)
  have folded {α : Type} {f : State → α → State} (hf : ∀ s a, R s (f s a)) (l : List α) (s : State) :
      R s (l.foldl f s) := List.foldlRecOn l f (refl s) fun _ ht _ _ => trans _ _ _ ht (hf ..)
  have ended (s : State) (k : FaultKind) (a : Resolved) : R s (endFaulted k a s) :=
    trans _ _ _ (countOut ..) (answered ..)
  have unlisted (s : State) (t : Target) : R s (s.unlisted t) :=
    trans _ _ _ (target ..) (folded (fun s m => port s m ((s.port m).setWaiting t [])) _ _)
  cases h with
  | accepted => exact port ..
  | returned => exact port ..
  | asserted => exact port ..
  | deasserted => exact port ..
  | refused => exact trans _ _ _ (port ..) (answered ..)
  | served => exact trans _ _ _ (port ..) (answered ..)
  | hit => exact trans _ _ _ (port ..) (trans _ _ _ (countIn ..) (port ..))
  | admitted => exact trans _ _ _ (port ..) (target ..)
  | started => exact target ..
  | target => exact target ..
  | ended => exact trans _ _ _ (target ..) (trans _ _ _ (countOut ..) (answered ..))
  | down t =>
    rw [answerDown_eq]
    exact trans _ _ _ (target s t _) (trans _ _ _ (unlisted ..) (folded (fun s a => ended s .targetDown a) _ _))

theorem PortMove.mailbox (h : PortMove s u) (m : Master) : u.mailbox m = s.mailbox m :=
  h.rel (R := fun s u => u.mailbox m = s.mailbox m) (fun _ => rfl) (fun _ _ _ h h' => h'.trans h) (fun _ _ _ => rfl)
    (fun _ _ _ => rfl) (fun _ _ _ => rfl) (by simp) (by simp)

theorem PortMove.engine (h : PortMove s u) : u.engine = s.engine :=
  h.rel (R := fun s u => u.engine = s.engine) (fun _ => rfl) (fun _ _ _ h h' => h'.trans h) (fun _ _ _ => rfl)
    (fun _ _ _ => rfl) (fun _ _ _ => rfl) (by simp) (by simp)

theorem PortMove.timer (h : PortMove s u) : u.timer = s.timer :=
  h.rel (R := fun s u => u.timer = s.timer) (fun _ => rfl) (fun _ _ _ h h' => h'.trans h) (fun _ _ _ => rfl)
    (fun _ _ _ => rfl) (fun _ _ _ => rfl) (by simp) (by simp)

theorem Moves.mailbox (h : Moves s u) (m : Master) : u.mailbox m = s.mailbox m :=
  h.rel (R := fun s u => u.mailbox m = s.mailbox m) (fun _ => rfl) (fun _ _ _ h h' => h'.trans h)
    (fun _ _ h => h.mailbox m) fun _ _ h => h.mailbox m

theorem Moves.engine (h : Moves s u) : u.engine = s.engine :=
  h.rel (R := fun s u => u.engine = s.engine) (fun _ => rfl) (fun _ _ _ h h' => h'.trans h)
    (fun _ _ h => h.engine) fun _ _ h => h.engine

/-- The accesses of a target that leaves service are taken from their lists and nothing else changes. -/
theorem unlisted_target (s : State) (t g : Target) :
    (s.unlisted t).target g = if g = t then { s.target t with queue := [] } else s.target g := by
  unfold State.unlisted
  rw [← State.target_setTarget]
  exact List.foldlRecOn (motive := fun u : State =>
    u.target g = (s.setTarget t { s.target t with queue := [] }).target g) allMasters _ rfl fun _ h _ _ => h

theorem foldl_endFaulted_target (k : FaultKind) (l : List Resolved) (s : State) (g : Target) :
    (l.foldl (fun s a => endFaulted k a s) s).target g = s.target g :=
  List.foldlRecOn (motive := fun u : State => u.target g = s.target g) l _ rfl
    fun _ h a _ => (endFaulted_target k a _ g).trans h

theorem answerDown_target (s : State) (t g : Target) :
    (answerDown t s).target g = if g = t then { s.target t with queue := [] } else s.target g := by
  rw [answerDown_eq, foldl_endFaulted_target, unlisted_target]

/-- No port move changes the settings of a target. -/
theorem PortMove.settings (h : PortMove s u) (g : Target) : (u.target g).settings = (s.target g).settings := by
  have replaced {s : State} {t : Target} {p : TargetPort} (e : p.settings = (s.target t).settings) :
      ((s.setTarget t p).target g).settings = (s.target g).settings := by
    rw [State.target_setTarget]
    split
    case isTrue h => rw [h, e]
    case isFalse => rfl
  cases h with
  | accepted => rfl
  | returned => rfl
  | asserted => rfl
  | deasserted => rfl
  | refused => rw [answer_target, State.target_setPort]
  | served => rw [answer_target, popAperture, State.target_setPort]
  | hit => rfl
  | admitted => exact replaced (s := s.setPort _ _) rfl
  | started => exact replaced rfl
  | target _ _ h => exact replaced h.settings
  | ended => rw [answer_target, countOut_target]; exact replaced rfl
  | down =>
    rw [answerDown_target]
    split
    case isTrue h => rw [h, State.target_setTarget, if_pos rfl]
    case isFalse h => rw [State.target_setTarget, if_neg h]

theorem Moves.settings (h : Moves s u) (g : Target) : (u.target g).settings = (s.target g).settings :=
  h.rel (R := fun s u => (u.target g).settings = (s.target g).settings) (fun _ => rfl)
    (fun _ _ _ h h' => h'.trans h) (fun _ _ h => by rw [h.target]) fun _ _ h => h.settings g

end

/-! ### Windows that stay what they are -/

/-- The fields of a live window that moves leave. -/
structure Window.SameShape (w v : Window) : Prop where
  layer : v.layer = w.layer
  holder : v.holder = w.holder
  members : v.members = w.members
  fabricBase : v.fabricBase = w.fabricBase
  length : v.length = w.length
  target : v.target = w.target
  targetBase : v.targetBase = w.targetBase
  rights : v.rights = w.rights
  leasePeriod : v.leasePeriod = w.leasePeriod

/-- A FREE window that no end of an offer returns to ACTIVE. -/
def Window.Dead (w : Window) : Prop := w.state = .free ∧ w.offer = none

/-- What moves leave of a window: a live one keeps its shape or ends, a FREE one stays so, a DRAINING one becomes nothing
but FREE, and no offer names another master. -/
structure Window.Keeps (w v : Window) : Prop where
  live : w.live = true → (v.live = true ∧ w.SameShape v) ∨ v.Dead
  dead : w.Dead → v.Dead
  drained : w.state = .draining → w.offer = none → v.live = true → v.state = .draining ∧ v.offer = none
  offer : ∀ o' ∈ v.offer, ∃ o ∈ w.offer, o'.recipient = o.recipient

theorem Window.SameShape.refl (w : Window) : w.SameShape w := ⟨rfl, rfl, rfl, rfl, rfl, rfl, rfl, rfl, rfl⟩

theorem Window.SameShape.trans {w v x : Window} (h : w.SameShape v) (h' : v.SameShape x) : w.SameShape x :=
  ⟨h'.layer.trans h.layer, h'.holder.trans h.holder, h'.members.trans h.members, h'.fabricBase.trans h.fabricBase,
    h'.length.trans h.length, h'.target.trans h.target, h'.targetBase.trans h.targetBase, h'.rights.trans h.rights,
    h'.leasePeriod.trans h.leasePeriod⟩

theorem Window.not_live_of_dead {w : Window} (h : w.Dead) : w.live = false := by simp [Window.live, h.1]

theorem Window.dead_freeWindow (g : Gen) : (freeWindow g).Dead := ⟨rfl, rfl⟩

theorem Window.Keeps.refl (w : Window) : w.Keeps w :=
  ⟨fun h => .inl ⟨h, .refl w⟩, id, fun h h' _ => ⟨h, h'⟩, fun o h => ⟨o, h, rfl⟩⟩

theorem Window.Keeps.trans {w v x : Window} (h : w.Keeps v) (h' : v.Keeps x) : w.Keeps x := by
  refine ⟨fun hw => ?live, fun hw => h'.dead (h.dead hw), fun hw ho hx => ?drained, fun o'' ho'' => ?offer⟩
  case live =>
    obtain ⟨hv, shape⟩ | hv := h.live hw
    · exact (h'.live hv).imp_left fun ⟨hx, shape'⟩ => ⟨hx, shape.trans shape'⟩
    · exact .inr (h'.dead hv)
  case drained =>
    have hl : w.live = true := by simp [Window.live, hw]
    obtain ⟨hv, -⟩ | hv := h.live hl
    · obtain ⟨state, offer⟩ := h.drained hw ho hv
      exact h'.drained state offer hx
    · simp [Window.not_live_of_dead (h'.dead hv)] at hx
  case offer =>
    obtain ⟨o', ho', e'⟩ := h'.offer o'' ho''
    obtain ⟨o, ho, e⟩ := h.offer o' ho'
    exact ⟨o, ho, e'.trans e⟩

/-- A change that keeps the state and ends an offer at most. -/
theorem Window.keeps_of_state {w v : Window} (shape : w.SameShape v) (hs : v.state = w.state)
    (ho : v.offer = w.offer ∨ v.offer = none) : w.Keeps v := by
  refine ⟨fun h => .inl ⟨by rwa [Window.live, hs], shape⟩, fun ⟨hf, hn⟩ => ⟨hs.trans hf, ?_⟩,
    fun hd hn _ => ⟨hs.trans hd, ?_⟩, fun o h => ?_⟩
  · exact ho.elim (fun e => e.trans hn) id
  · exact ho.elim (fun e => e.trans hn) id
  · obtain e | e := ho
    · exact ⟨o, e ▸ h, rfl⟩
    · simp [e] at h

/-- A change of a live window that is not DRAINING or has an offer. -/
theorem Window.keeps_of_live {w v : Window} (shape : w.SameShape v) (hw : w.live = true) (hv : v.live = true)
    (hd : w.state = .draining → w.offer = none → v.state = .draining ∧ v.offer = none)
    (ho : ∀ o' ∈ v.offer, ∃ o ∈ w.offer, o'.recipient = o.recipient) : w.Keeps v :=
  ⟨fun _ => .inl ⟨hv, shape⟩, fun h => by simp [Window.not_live_of_dead h] at hw, fun h h' _ => hd h h', ho⟩

theorem Window.keeps_freeWindow (w : Window) (g : Gen) : w.Keeps (freeWindow g) :=
  ⟨fun _ => .inr (dead_freeWindow g), fun _ => dead_freeWindow g, fun _ _ h => by simp [freeWindow, Window.live] at h,
    by simp [freeWindow]⟩

theorem Window.Edit.keeps {grace : Nat} {w v : Window} (h : w.Edit grace v) : w.Keeps v := by
  have same (w : Window) := Window.SameShape.refl w
  have kept (w : Window) : ∀ o' ∈ w.offer, ∃ o ∈ w.offer, o'.recipient = o.recipient := fun o h => ⟨o, h, rfl⟩
  cases h with
  | withdraw => exact Window.keeps_of_state { same w with } rfl (.inr rfl)
  | decline some =>
    refine ⟨fun _ => .inl ⟨rfl, { same w with }⟩, fun ⟨_, ho⟩ => ?_, fun _ ho => ?_, by simp⟩ <;> simp [ho] at some
  | activate hl hd => exact Window.keeps_of_live { same w with } hl rfl (fun h => absurd h hd) (kept w)
  | lapse hl hd => exact Window.keeps_of_live { same w with } hl rfl (fun h => absurd h hd) (kept w)
  | lease => exact Window.keeps_of_state { same w with } rfl (.inl rfl)
  | warn => exact Window.keeps_of_state { same w with } rfl (.inl rfl)
  | grace => exact Window.keeps_of_state { same w with } rfl (.inl rfl)
  | ticks o ho =>
    refine ⟨fun h => .inl ⟨h, { same w with }⟩, fun ⟨_, hn⟩ => ?_, fun _ hn => ?_, ?_⟩
    · simp [ho] at hn
    · simp [ho] at hn
    · simp [ho]
  | renew hl hd =>
    refine Window.keeps_of_live { same w with } hl ?_ (fun h => absurd h hd) (kept w)
    rw [Window.live_iff] at hl ⊢
    dsimp only
    split
    · simp
    · exact hl
  | unwind => exact Window.keeps_of_state { same w with } rfl (.inl rfl)
  | drain n hl => exact Window.keeps_of_live { same w with } hl rfl (fun _ ho => ⟨rfl, ho⟩) (kept w)
  | free => exact Window.keeps_freeWindow w _

/-! ### The tables across moves -/

/-- What moves leave of the tables. -/
structure KeepsTables (s u : State) : Prop where
  window : ∀ i, (s.window i).Keeps (u.window i)
  offline : ∀ m, (u.master m).state = .offline → (s.master m).state = .offline
  settings : ∀ t, (u.target t).settings = (s.target t).settings

theorem State.setWindow_window_rel {R : Window → Window → Prop} (refl : ∀ w, R w w) {s : State} {i : Slot}
    {v : Window} (h : R (s.window i) v) (j : Slot) : R (s.window j) ((s.setWindow i v).window j) := by
  rw [State.window_setWindow]
  split
  case isTrue e => rw [e]; exact h
  case isFalse => exact refl _

theorem State.setMaster_master_rel {R : MasterRecord → MasterRecord → Prop} (refl : ∀ r, R r r) {s : State}
    {m : Master} {r : MasterRecord} (h : R (s.master m) r) (j : Master) :
    R (s.master j) ((s.setMaster m r).master j) := by
  rw [State.master_setMaster]
  split
  case isTrue e => rw [e]; exact h
  case isFalse => exact refl _

/-- An access counted out leaves its window, or FREE when it was the last of a DRAINING one. -/
theorem countOut_window_keeps (s : State) (i j : Slot) : (s.window j).Keeps ((countOut i s).window j) := by
  rw [countOut_window]
  split
  case isTrue e =>
    rw [e]
    split
    case isTrue => exact Window.keeps_freeWindow ..
    case isFalse => exact Window.keeps_of_state { Window.SameShape.refl (s.window i) with } rfl (.inl rfl)
  case isFalse => exact .refl _

section
variable {s u : State}

theorem TableMove.window_keeps (h : TableMove s u) (i : Slot) : (s.window i).Keeps (u.window i) := by
  cases h with
  | window j v h => exact State.setWindow_window_rel Window.Keeps.refl h.keeps i
  | record => exact .refl _
  | settings => exact .refl _
  | timer => exact .refl _
  | pointer => exact .refl _
  | drst => exact .refl _

theorem PortMove.window_keeps (h : PortMove s u) (i : Slot) : (s.window i).Keeps (u.window i) := by
  refine h.rel (R := fun s u => (s.window i).Keeps (u.window i)) (fun _ => .refl _) (fun _ _ _ => .trans)
    (fun _ _ _ => .refl _) (fun _ _ _ => .refl _) (fun _ _ _ => .refl _) (fun s j => countOut_window_keeps s j i)
    fun s j => ?_
  refine State.setWindow_window_rel Window.Keeps.refl ?_ i
  exact Window.keeps_of_state { Window.SameShape.refl (s.window j) with } rfl (.inl rfl)

theorem MasterRecord.Edit.offline {r r' : MasterRecord} (h : r.Edit r') (ho : r'.state = .offline) :
    r.state = .offline := by
  obtain e | e | ⟨e, -⟩ := h.state
  · exact e ▸ ho
  · rw [e] at ho; cases ho
  · rw [e] at ho; cases ho

theorem TableMove.offline (h : TableMove s u) (m : Master) :
    (u.master m).state = .offline → (s.master m).state = .offline := by
  have replaced (n : Master) (r : MasterRecord) (e : r.state = .offline → (s.master n).state = .offline) :
      ((s.setMaster n r).master m).state = .offline → (s.master m).state = .offline :=
    State.setMaster_master_rel (R := fun r r' => r'.state = .offline → r.state = .offline) (fun _ => id) e m
  cases h with
  | window => exact id
  | record n r h => exact replaced n r h.offline
  | settings n => exact replaced n _ id
  | timer => exact id
  | pointer => exact id
  | drst => exact id

/-- An entry in a fault record is an edit of the record of its master (R134, R138). -/
theorem enterReport_edit (m : Master) (f : FaultReport) (s : State) :
    (s.master m).Edit
      { s.master m with
        faultRecord := some (enterRecord (s.master m).faultRecord f)
        notices := insertNotice faultNotice (s.master m).notices
        state := if f.kind.holds && (s.master m).policy == .hold then .held else (s.master m).state } := by
  refine ⟨rfl, rfl, ?_, fun counts => ?_, id⟩
  · dsimp only
    split
    case isTrue h =>
      simp only [Bool.and_eq_true, beq_iff_eq] at h
      exact .inr (.inr ⟨rfl, h.2⟩)
    case isFalse => exact .inl rfl
  · simp only [Option.mem_def, Option.some.injEq, forall_eq']
    unfold enterRecord
    split
    case h_1 => simp
    case h_2 g e =>
      have := counts g e
      dsimp only
      split <;> omega

theorem enterReport_tableMove (m : Master) (f : FaultReport) (s : State) : TableMove s (enterReport m f s) :=
  .record m _ (enterReport_edit m f s)

theorem PortMove.offline (h : PortMove s u) (m : Master) :
    (u.master m).state = .offline → (s.master m).state = .offline :=
  h.rel (R := fun s u => (u.master m).state = .offline → (s.master m).state = .offline) (fun _ => id)
    (fun _ _ _ h h' => h ∘ h') (fun _ _ _ => id) (fun _ _ _ => id)
    (fun s n f => (enterReport_tableMove n f s).offline m) (by simp) (by simp)

theorem Moves.keepsTables (h : Moves s u) : KeepsTables s u :=
  h.rel (fun _ => ⟨fun _ => .refl _, fun _ => id, fun _ => rfl⟩)
    (fun _ _ _ h h' => ⟨fun i => (h.window i).trans (h'.window i), fun m => h.offline m ∘ h'.offline m,
      fun t => (h'.settings t).trans (h.settings t)⟩)
    (fun _ _ h => ⟨h.window_keeps, h.offline, fun t => by rw [h.target]⟩)
    fun _ _ h => ⟨h.window_keeps, h.offline, h.settings⟩

/-! ### Tables without a FREE slot that has an offer -/

/-- Every slot is live or FREE without an offer; the part of R131 that keeps slots FREE. -/
def NoGhosts (s : State) : Prop := ∀ i, (s.window i).live = true ∨ (s.window i).Dead

theorem noGhosts_of_offerLaw (h : OfferLaw s) : NoGhosts s := by
  intro i
  by_cases hl : (s.window i).live = true
  · exact .inl hl
  · have free : (s.window i).state = .free := by simpa [Window.live] using hl
    have marked := (h i).1
    exact .inr ⟨free, by simpa [free] using marked⟩

theorem NoGhosts.setWindow (h : NoGhosts s) {i : Slot} {v : Window} (hv : v.live = true) :
    NoGhosts (s.setWindow i v) := by
  intro j
  rw [State.window_setWindow]
  split
  case isTrue => exact .inl hv
  case isFalse => exact h j

/-- No slot becomes live, and a live one keeps its shape. -/
def Narrows (s u : State) : Prop :=
  ∀ i, (u.window i).live = true → (s.window i).live = true ∧ (s.window i).SameShape (u.window i)

theorem KeepsTables.narrows (h : KeepsTables s u) (hs : NoGhosts s) : Narrows s u := by
  intro i hl
  obtain hw | hw := hs i
  · obtain ⟨-, shape⟩ | dead := (h.window i).live hw
    · exact ⟨hw, shape⟩
    · simp [Window.not_live_of_dead dead] at hl
  · simp [Window.not_live_of_dead ((h.window i).dead hw)] at hl

end

/-! ### DETACH and the master reset -/

/-- DETACH before the mailbox (R159 steps 1 to 4). -/
def detachTables (n : Master) (s : State) : State :=
  retireWindowsOf .detach n (declineOffersTo n (madeOffline n s))

theorem detachEffect_eq (n : Master) (s : State) : detachEffect n s = detachMailbox n (detachTables n s) := rfl

theorem detachTables_moves (n : Master) (s : State) : Moves (madeOffline n s) (detachTables n s) :=
  (declineOffersTo_moves n _).trans (retireWindowsOf_moves .detach n _)

@[simp] theorem detachMailbox_window (n : Master) (s : State) (i : Slot) :
    (detachMailbox n s).window i = s.window i := by
  unfold detachMailbox; split <;> rfl

@[simp] theorem detachMailbox_port (n : Master) (s : State) (m : Master) :
    (detachMailbox n s).port m = s.port m := by
  unfold detachMailbox; split <;> rfl

@[simp] theorem detachMailbox_target (n : Master) (s : State) (t : Target) :
    (detachMailbox n s).target t = s.target t := by
  unfold detachMailbox; split <;> rfl

@[simp] theorem detachMailbox_timer (n : Master) (s : State) : (detachMailbox n s).timer = s.timer := by
  unfold detachMailbox; split <;> rfl

@[simp] theorem detachMailbox_engine (n : Master) (s : State) : (detachMailbox n s).engine = s.engine := by
  unfold detachMailbox; split <;> rfl

/-- A SUBMITTED mailbox of the master goes to DONE with DETACHED, and no other mailbox is reached (R73, R159 step 5). -/
theorem detachMailbox_mailbox (n : Master) (s : State) (m : Master) :
    (detachMailbox n s).mailbox m =
      if m = n ∧ (s.mailbox n).state = .submitted then
        { s.mailbox n with state := .done, result := some .detached, words := zeroWords }
      else s.mailbox m := by
  unfold detachMailbox
  split
  case isTrue h => simp only [beq_iff_eq] at h; simp [h]
  case isFalse h => simp only [beq_iff_eq] at h; simp [h]

@[simp] theorem resetMailboxOf_window (n : Master) (s : State) (i : Slot) :
    (resetMailboxOf n s).window i = s.window i := by
  unfold resetMailboxOf; dsimp only; split <;> rfl

@[simp] theorem resetMailboxOf_port (n : Master) (s : State) (m : Master) :
    (resetMailboxOf n s).port m = s.port m := by
  unfold resetMailboxOf; dsimp only; split <;> rfl

@[simp] theorem resetMailboxOf_target (n : Master) (s : State) (t : Target) :
    (resetMailboxOf n s).target t = s.target t := by
  unfold resetMailboxOf; dsimp only; split <;> rfl

@[simp] theorem resetMailboxOf_timer (n : Master) (s : State) : (resetMailboxOf n s).timer = s.timer := by
  unfold resetMailboxOf; dsimp only; split <;> rfl

/-- The mailbox of the master is at its reset values, and no other is reached (R80). -/
theorem resetMailboxOf_mailbox (n : Master) (s : State) (m : Master) :
    (resetMailboxOf n s).mailbox m = if m = n then resetMailbox else s.mailbox m := by
  unfold resetMailboxOf; dsimp only; split <;> exact State.mailbox_setMailbox ..

/-- A command in execution for the master is orphaned (R80). -/
theorem resetMailboxOf_engine (n : Master) (s : State) :
    (resetMailboxOf n s).engine =
      if (s.mailbox n).state = .executing then
        { s.engine with execution := s.engine.execution.map fun x => { x with orphan := true } }
      else s.engine := by
  unfold resetMailboxOf
  dsimp only
  split
  case isTrue h => rw [if_pos (by simpa using h)]
  case isFalse h => rw [if_neg (by simpa using h)]; rfl

end Sys2Proof.Machine
end

section
/-! The invariants of the masters and of the mailboxes (R69, R74, R80, R138, R155), and the fixed fields of a live
window (R3): each is kept by the moves, and by each of the changes that do more. -/

namespace Sys2Proof.Machine

open Sys2Proof.Safety

section
variable {s u : State}

/-! ### M0 stays ONLINE under REPORT -/

theorem supervisorLaw_of_master (hs : SupervisorLaw s) (h : u.master 0 = s.master 0) : SupervisorLaw u := by
  unfold SupervisorLaw; rw [h]; exact hs

/-- A change of one master record that leaves M0 as the law has it. -/
theorem supervisorLaw_setMaster (hs : SupervisorLaw s) {m : Master} {r : MasterRecord}
    (h : m = 0 → r.state = .online ∧ r.policy = .report) : SupervisorLaw (s.setMaster m r) := by
  unfold SupervisorLaw
  rw [State.master_setMaster]
  split
  case isTrue e => exact h e.symm
  case isFalse => exact hs

/-- Under REPORT no edit makes a master HELD. -/
theorem MasterRecord.Edit.online {r r' : MasterRecord} (h : r.Edit r') (hs : r.state = .online)
    (hp : r.policy = .report) : r'.state = .online ∧ r'.policy = .report := by
  refine ⟨?_, h.policy.trans hp⟩
  obtain e | e | ⟨-, e⟩ := h.state
  · exact e.trans hs
  · exact e
  · rw [hp] at e; cases e

theorem TableMove.supervisorLaw (h : TableMove s u) (hs : SupervisorLaw s) : SupervisorLaw u := by
  cases h with
  | window => exact hs
  | record m r h => exact supervisorLaw_setMaster hs fun e => by subst e; exact h.online hs.1 hs.2
  | settings m q f d _ hf => exact supervisorLaw_setMaster hs fun e => by subst e; exact ⟨hs.1, hf rfl⟩
  | timer => exact hs
  | pointer => exact hs
  | drst => exact hs

theorem PortMove.supervisorLaw (h : PortMove s u) : SupervisorLaw s → SupervisorLaw u :=
  h.rel (R := fun s u => SupervisorLaw s → SupervisorLaw u) (fun _ => id) (fun _ _ _ h h' => h' ∘ h) (fun _ _ _ => id)
    (fun _ _ _ => id) (fun s m f => (enterReport_tableMove m f s).supervisorLaw)
    (by simp [SupervisorLaw]) (fun _ _ => id)

theorem Moves.supervisorLaw (h : Moves s u) (hs : SupervisorLaw s) : SupervisorLaw u :=
  h.keeps (fun _ _ h => h.supervisorLaw) (fun _ _ h => h.supervisorLaw) hs

theorem Row.supervisorLaw (h : Row s u) (hs : SupervisorLaw s) : SupervisorLaw u := by
  have finished (x : Execution) {c : Completion} (hc : SupervisorLaw c.state) : SupervisorLaw (finish x c) :=
    supervisorLaw_of_master hc (finish_master ..)
  cases h with
  | moves h => exact h.supervisorLaw hs
  | completion x c _ h => exact finished x (h.supervisorLaw hs)
  | slot x c id i v _ _ _ h => exact finished x (h.supervisorLaw hs)
  | resized x c p _ _ h => exact finished x (by rw [h]; exact hs)
  | detached x c n _ _ hn h =>
    refine finished x ?_
    rw [h, detachEffect_eq]
    have offline : SupervisorLaw (madeOffline n s) := supervisorLaw_setMaster hs fun e => absurd e hn
    exact supervisorLaw_of_master ((detachTables_moves n s).supervisorLaw offline) (detachMailbox_master ..)
  | granted => exact hs
  | written m b _ h => exact h.supervisorLaw hs
  | masterReset n h => exact h.supervisorLaw (supervisorLaw_of_master hs (resetMailboxOf_master ..))

/-- Settles O55: every change keeps the law of M0. -/
theorem supervisorStaysOnline : Obligations.SupervisorStaysOnline := fun _ _ hs h =>
  keeps_of_row (fun _ => ⟨rfl, rfl⟩) (fun _ _ h => h.supervisorLaw) (fun _ _ h => h) h hs

/-! ### Mailboxes and engine -/

/-- The part of the law that speaks of one mailbox, the command in execution given (R69, R74, R80). -/
def Mailbox.Follows (b : Mailbox) (m : Master) (execution : Option Execution) : Prop :=
  (b.state = .executing ↔ ∃ x ∈ execution, x.master = m ∧ x.orphan = false) ∧
    ∀ x ∈ execution, x.master = m → x.orphan = false → b.captured = x.params ∧ b.command.getD 0#8 = x.command

theorem mailboxLaw_iff : MailboxLaw s ↔ ∀ m, (s.mailbox m).Follows m s.engine.execution := Iff.rfl

theorem mailboxLaw_of_eq (hs : MailboxLaw s) (hb : ∀ m, u.mailbox m = s.mailbox m) (he : u.engine = s.engine) :
    MailboxLaw u := by
  rw [mailboxLaw_iff] at hs ⊢
  intro m
  rw [hb, he]
  exact hs m

theorem Moves.mailboxLaw (h : Moves s u) (hs : MailboxLaw s) : MailboxLaw u :=
  mailboxLaw_of_eq hs h.mailbox h.engine

/-- A mailbox that is not EXECUTING, while no command of its master is in execution that is not orphaned. -/
theorem Mailbox.follows_of_idle {b : Mailbox} {m : Master} {e : Option Execution} (hb : b.state ≠ .executing)
    (he : ∀ x ∈ e, x.master = m → x.orphan = true) : b.Follows m e := by
  refine ⟨⟨fun h => absurd h hb, fun ⟨x, hx, hm, ho⟩ => ?_⟩, fun x hx hm ho => ?_⟩ <;>
    exact absurd (he x hx hm) (by simp [ho])

/-- What the law says of a mailbox that is not EXECUTING. -/
theorem Mailbox.Follows.orphan {b : Mailbox} {m : Master} {e : Option Execution} (h : b.Follows m e)
    (hb : b.state ≠ .executing) : ∀ x ∈ e, x.master = m → x.orphan = true := by
  intro x hx hm
  by_contra ho
  exact hb (h.1.2 ⟨x, hx, hm, by simpa using ho⟩)

/-- A change of one mailbox that meets the law, while the engine stays. -/
theorem mailboxLaw_setMailbox (hs : MailboxLaw s) {m : Master} {b : Mailbox} (hb : b.Follows m s.engine.execution) :
    MailboxLaw (s.setMailbox m b) := by
  rw [mailboxLaw_iff] at hs ⊢
  intro j
  rw [State.mailbox_setMailbox, State.engine_setMailbox]
  split
  case isTrue e => rw [e]; exact hb
  case isFalse => exact hs j

/-- A completion: the engine is IDLE, and the mailbox of a command that is not orphaned is DONE. -/
theorem mailboxLaw_finish {x : Execution} {c : Completion} (hc : MailboxLaw c.state)
    (hx : c.state.engine.execution = some x) : MailboxLaw (finish x c) := by
  rw [mailboxLaw_iff] at hc ⊢
  intro m
  rw [finish_mailbox, finish_engine]
  refine Mailbox.follows_of_idle ?_ (by simp)
  split
  case isTrue => simp
  case isFalse h =>
    intro executing
    obtain ⟨y, hy, hm, ho⟩ := (hc m).1.1 executing
    obtain rfl : x = y := by simpa [hx] using hy
    exact h ⟨hm.symm, ho⟩

/-- The engine takes a SUBMITTED command while it is IDLE (R74). -/
theorem mailboxLaw_granted (hs : MailboxLaw s) (hx : s.engine.execution = none) (m : Master) :
    MailboxLaw
      { s.setMailbox m { s.mailbox m with state := .executing } with
        engine :=
          { execution := some
              { master := m, command := (s.mailbox m).command.getD 0#8, params := (s.mailbox m).captured,
                orphan := false }
            pointer := m } } := by
  rw [mailboxLaw_iff] at hs ⊢
  intro j
  rw [State.mailbox_with_engine, State.mailbox_setMailbox]
  split
  case isTrue e => simp [Mailbox.Follows, e]
  case isFalse e =>
    have idle : (s.mailbox j).state ≠ .executing := fun h => by simpa [hx] using (hs j).1.1 h
    exact Mailbox.follows_of_idle idle (by simp [Ne.symm e])

/-- The taking of an aperture write leaves an EXECUTING mailbox so, with its captured command. -/
theorem MailboxWrite.follows {m : Master} {b : Mailbox} (h : MailboxWrite s m b) (hs : MailboxLaw s) :
    b.Follows m s.engine.execution := by
  have law := mailboxLaw_iff.1 hs m
  cases h with
  | param => exact law
  | submission w h =>
    refine Mailbox.follows_of_idle ?_ (law.orphan (by obtain h | h := h <;> simp [h]))
    unfold submitted
    dsimp only
    split <;> simp

/-- A master reset empties the mailbox and orphans its command (R80). -/
theorem mailboxLaw_resetMailboxOf (hs : MailboxLaw s) (n : Master) : MailboxLaw (resetMailboxOf n s) := by
  rw [mailboxLaw_iff] at hs ⊢
  intro m
  rw [resetMailboxOf_mailbox, resetMailboxOf_engine]
  by_cases executing : (s.mailbox n).state = .executing
  · obtain ⟨x, hx, hn, ho⟩ := (hs n).1.1 executing
    rw [if_pos executing, Option.mem_def.1 hx]
    have notExecuting : (if m = n then resetMailbox else s.mailbox m).state ≠ .executing := by
      split
      case isTrue => simp [resetMailbox]
      case isFalse e =>
        intro h
        obtain ⟨y, hy, hm, -⟩ := (hs m).1.1 h
        obtain rfl : x = y := Option.mem_unique hx hy
        exact e (hm.symm.trans hn)
    exact Mailbox.follows_of_idle notExecuting (by simp)
  · rw [if_neg executing]
    split
    case isTrue e =>
      exact Mailbox.follows_of_idle (by simp [resetMailbox]) (by rw [e]; exact (hs n).orphan executing)
    case isFalse => exact hs m

/-- DETACH at a mailbox writes a SUBMITTED one (R73). -/
theorem mailboxLaw_detachMailbox (hs : MailboxLaw s) (n : Master) : MailboxLaw (detachMailbox n s) := by
  rw [mailboxLaw_iff] at hs ⊢
  intro m
  rw [detachMailbox_mailbox, detachMailbox_engine]
  split
  case isTrue h =>
    obtain ⟨rfl, h⟩ := h
    exact Mailbox.follows_of_idle (by simp) ((hs m).orphan (by simp [h]))
  case isFalse => exact hs m

theorem Row.mailboxLaw (h : Row s u) (hs : MailboxLaw s) : MailboxLaw u := by
  have finished {x : Execution} {c : Completion} {t : State} (hx : s.engine.execution = some x) (ht : MailboxLaw t)
      (he : t.engine = s.engine) (hc : Moves t c.state) : MailboxLaw (finish x c) :=
    mailboxLaw_finish (hc.mailboxLaw ht) (by rw [hc.engine, he, hx])
  cases h with
  | moves h => exact h.mailboxLaw hs
  | completion x c hx h => exact finished hx hs rfl h
  | slot x c id i v hx _ _ h => exact finished (t := s.setWindow i v) hx.1 (mailboxLaw_of_eq hs (fun _ => rfl) rfl) rfl h
  | resized x c p hx _ h =>
    refine finished hx (t := c.state) (mailboxLaw_of_eq hs (fun _ => ?_) ?_) ?_ (.refl _) <;> rw [h] <;> rfl
  | detached x c n hx _ _ h =>
    have tables : MailboxLaw (detachTables n s) :=
      (detachTables_moves n s).mailboxLaw (mailboxLaw_of_eq hs (fun _ => rfl) rfl)
    have engine : (detachTables n s).engine = s.engine := (detachTables_moves n s).engine
    rw [detachEffect_eq] at h
    refine mailboxLaw_finish ?_ ?_ <;> rw [h]
    · exact mailboxLaw_detachMailbox tables n
    · rw [detachMailbox_engine, engine, hx]
  | granted m hx => exact mailboxLaw_granted hs hx m
  | written m b hb h => exact h.mailboxLaw (mailboxLaw_setMailbox hs (hb.follows hs))
  | masterReset n h =>
    have port : MailboxLaw (s.setPort n (s.port n).assertReset) := mailboxLaw_of_eq hs (fun _ => rfl) rfl
    exact h.mailboxLaw (mailboxLaw_resetMailboxOf port n)

theorem resetMailboxes_get (m : Master) (s : State) : (assertDeviceReset s).mailbox m = resetMailbox := by
  simp [assertDeviceReset, State.mailbox]

theorem assertDeviceReset_mailboxLaw (s : State) : MailboxLaw (assertDeviceReset s) := fun m =>
  Mailbox.follows_of_idle (by simp [resetMailboxes_get, resetMailbox]) (by simp [assertDeviceReset, resetEngine])

/-- Settles O58: every change keeps mailboxes and engine in agreement. -/
theorem mailboxesFollowTheEngine : Obligations.MailboxesFollowTheEngine := fun _ _ hs h =>
  keeps_of_row assertDeviceReset_mailboxLaw (fun _ _ h => h.mailboxLaw)
    (fun _ _ h => mailboxLaw_of_eq h (fun _ => rfl) rfl) h hs

/-! ### The fixed fields of a live window -/

/-- The fields of a live window that no step but a device reset changes, and its length, which never falls (R3). -/
structure Window.Grows (w v : Window) : Prop where
  layer : v.layer = w.layer
  fabricBase : v.fabricBase = w.fabricBase
  target : v.target = w.target
  targetBase : v.targetBase = w.targetBase
  rights : v.rights = w.rights
  leasePeriod : v.leasePeriod = w.leasePeriod
  length : w.length ≤ v.length

theorem Window.Grows.refl (w : Window) : w.Grows w := ⟨rfl, rfl, rfl, rfl, rfl, rfl, Nat.le_refl _⟩

theorem Window.SameShape.grows {w v : Window} (h : w.SameShape v) : w.Grows v :=
  ⟨h.layer, h.fabricBase, h.target, h.targetBase, h.rights, h.leasePeriod, h.length.ge⟩

theorem Window.Grows.trans {w v x : Window} (h : w.Grows v) (h' : v.Grows x) : w.Grows x :=
  ⟨h'.layer.trans h.layer, h'.fabricBase.trans h.fabricBase, h'.target.trans h.target,
    h'.targetBase.trans h.targetBase, h'.rights.trans h.rights, h'.leasePeriod.trans h.leasePeriod,
    h.length.trans h'.length⟩

/-- A command that writes a window takes a FREE slot or leaves a live window live, with its fixed fields. -/
theorem SlotCommand.grows {m : Master} {id : CmdId} {i : Slot} {v : Window} (h : SlotCommand s m id i v)
    (hl : (s.window i).live = true) : v.live = true ∧ (s.window i).Grows v := by
  have same (w : Window) := Window.Grows.refl w
  cases h with
  | claim p i free => exact absurd free (Window.live_iff.1 hl)
  | claimCommon p i free => exact absurd free (Window.live_iff.1 hl)
  | extend => exact ⟨hl, { same _ with length := Nat.le_add_right _ _ }⟩
  | setMembers => exact ⟨hl, { same _ with }⟩
  | offer => exact ⟨rfl, { same _ with }⟩
  | accept => exact ⟨rfl, { same _ with }⟩

/-- Across moves a live window that is live afterwards has kept its shape. -/
theorem Moves.sameShape (h : Moves s u) {i : Slot} (hs : (s.window i).live = true) (hu : (u.window i).live = true) :
    (s.window i).SameShape (u.window i) := by
  obtain ⟨-, shape⟩ | dead := (h.keepsTables.window i).live hs
  · exact shape
  · simp [Window.not_live_of_dead dead] at hu

theorem Row.grows (h : Row s u) {i : Slot} (hs : (s.window i).live = true) (hu : (u.window i).live = true) :
    (s.window i).Grows (u.window i) := by
  cases h with
  | moves h => exact (h.sameShape hs hu).grows
  | completion x c _ h =>
    rw [finish_window] at hu ⊢
    exact (h.sameShape hs hu).grows
  | slot x c id j v _ hv _ h =>
    rw [finish_window] at hu ⊢
    have written : ((s.setWindow j v).window i).live = true ∧ (s.window i).Grows ((s.setWindow j v).window i) := by
      rw [State.window_setWindow]
      split
      case isTrue e => subst e; exact hv.grows hs
      case isFalse => exact ⟨hs, .refl _⟩
    exact written.2.trans (h.sameShape written.1 hu).grows
  | resized x c p _ _ h =>
    rw [finish_window, h]
    exact .refl _
  | detached x c n _ _ _ h =>
    rw [finish_window, h, detachEffect_eq, detachMailbox_window] at hu ⊢
    exact ((detachTables_moves n s).sameShape hs hu).grows
  | granted => exact .refl _
  | written m b _ h => exact (h.sameShape (s := s.setMailbox m b) hs hu).grows
  | masterReset n h =>
    have kept := resetMailboxOf_window n (s.setPort n (s.port n).assertReset) i
    have same := h.sameShape (by rw [kept]; exact hs) hu
    rw [kept] at same
    exact same.grows

/-- Settles O60: a live window that lives on grows at most, whatever change the step is. -/
theorem shapeOfALiveWindowIsFixed : Obligations.ShapeOfALiveWindowIsFixed := by
  intro s u i front h hs hu
  obtain ⟨reset, -⟩ | ⟨q, row⟩ := step_row h
  · exact absurd reset front
  · obtain ⟨layer, base, target, targetBase, rights, period, length⟩ :=
      row.grows (s := { s with pending := q }) (Window.live_iff.2 hs) (Window.live_iff.2 hu)
    exact ⟨layer, base, target, targetBase, rights, period, length⟩

end

end Sys2Proof.Machine
end

section
/-! The laws of live windows (R3, R10 to R12) and the quota (R158). The moves make no window live and keep the shape of
those that stay; a claim, an EXTEND and an ACCEPT meet the laws by their checks. -/

namespace Sys2Proof.Machine

open Sys2Proof.Safety

section
variable {s u : State}

/-! ### The laws of one window and of two -/

/-- The laws of one live window, for a target of a given size (R3, R10, R12). -/
structure Window.WellMade (size : Nat) (w : Window) : Prop where
  length : 1 ≤ w.length
  below : w.fabricBase + w.length ≤ 65520
  fits : w.targetBase + w.length ≤ size
  rights : w.rights ≠ 0#3
  priv : w.layer = .priv → w.leasePeriod.isSome = true ∧ w.members = none
  common : w.layer = .common → w.holder = 0 ∧ w.members.isSome = true

/-- The laws of two live windows (R10, R11). -/
structure Window.Separate (w v : Window) : Prop where
  target : w.target = v.target → Apart w.targetBase w.length v.targetBase v.length
  common : w.layer = .common → v.layer = .common → Apart w.fabricBase w.length v.fabricBase v.length
  priv : w.layer = .priv → v.layer = .priv → w.holder = v.holder →
    Apart w.fabricBase w.length v.fabricBase v.length

theorem lawfulWindows_iff :
    LawfulWindows s ↔
      (∀ i, (s.window i).live = true → (s.window i).WellMade (s.target (s.window i).target).settings.size) ∧
      ∀ i j, i ≠ j → (s.window i).live = true → (s.window j).live = true → (s.window i).Separate (s.window j) := by
  constructor
  · intro ⟨one, two⟩
    refine ⟨fun i hi => ?_, fun i j hij hi hj => ?_⟩
    · obtain ⟨length, below, fits, rights, priv, common⟩ := one i hi
      exact ⟨length, below, fits, rights, priv, common⟩
    · obtain ⟨target, common, priv⟩ := two i j hij hi hj
      exact ⟨target, common, priv⟩
  · intro ⟨one, two⟩
    refine ⟨fun i hi => ?_, fun i j hij hi hj => ?_⟩
    · obtain ⟨length, below, fits, rights, priv, common⟩ := one i hi
      exact ⟨length, below, fits, rights, priv, common⟩
    · obtain ⟨target, common, priv⟩ := two i j hij hi hj
      exact ⟨target, common, priv⟩

theorem apart_symm {a n b k : Nat} (h : Apart a n b k) : Apart b k a n := Or.symm h

theorem Window.Separate.symm {w v : Window} (h : w.Separate v) : v.Separate w :=
  ⟨fun e => apart_symm (h.target e.symm), fun hv hw => apart_symm (h.common hw hv),
    fun hv hw e => apart_symm (h.priv hw hv e.symm)⟩

theorem Window.SameShape.wellMade {w v : Window} (h : w.SameShape v) {size : Nat} (hw : w.WellMade size) :
    v.WellMade size := by
  obtain ⟨length, below, fits, rights, priv, common⟩ := hw
  constructor <;> simpa only [h.layer, h.holder, h.members, h.fabricBase, h.length, h.targetBase, h.rights, h.leasePeriod]

theorem Window.SameShape.separate {w v w' v' : Window} (h : w.SameShape w') (h' : v.SameShape v')
    (hw : w.Separate v) : w'.Separate v' := by
  obtain ⟨target, common, priv⟩ := hw
  constructor <;> simpa only [h.layer, h.holder, h.fabricBase, h.length, h.target, h.targetBase, h'.layer, h'.holder,
    h'.fabricBase, h'.length, h'.target, h'.targetBase]

/-- Tables in which no window becomes live and the live ones keep their shape stay lawful. -/
theorem lawfulWindows_of_narrows (hs : LawfulWindows s) (narrows : Narrows s u)
    (size : ∀ t, (u.target t).settings.size = (s.target t).settings.size) : LawfulWindows u := by
  rw [lawfulWindows_iff] at hs ⊢
  obtain ⟨one, two⟩ := hs
  refine ⟨fun i hi => ?_, fun i j hij hi hj => ?_⟩
  · obtain ⟨live, shape⟩ := narrows i hi
    rw [size, shape.target]
    exact shape.wellMade (one i live)
  · obtain ⟨live, shape⟩ := narrows i hi
    obtain ⟨live', shape'⟩ := narrows j hj
    exact shape.separate shape' (two i j hij live live')

/-- Lawful tables stay so when a slot takes a well-made window that is separate from the other live ones. -/
theorem lawfulWindows_setWindow (hs : LawfulWindows s) {i : Slot} {v : Window}
    (made : v.WellMade (s.target v.target).settings.size)
    (separate : ∀ j, j ≠ i → (s.window j).live = true → v.Separate (s.window j)) :
    LawfulWindows (s.setWindow i v) := by
  rw [lawfulWindows_iff] at hs ⊢
  obtain ⟨one, two⟩ := hs
  have ite_live (j : Slot) (h : j ≠ i) : (s.setWindow i v).window j = s.window j := by
    rw [State.window_setWindow, if_neg h]
  have written : (s.setWindow i v).window i = v := by rw [State.window_setWindow, if_pos rfl]
  refine ⟨fun j hj => ?_, fun j k hjk hj hk => ?_⟩
  · by_cases h : j = i
    · subst h
      rw [written]
      exact made
    · rw [ite_live j h] at hj ⊢
      exact one j hj
  · by_cases h : j = i
    · subst h
      rw [written, ite_live k hjk.symm] at *
      exact separate k hjk.symm hk
    · by_cases h' : k = i
      · subst h'
        rw [written, ite_live j h] at *
        exact (separate j h hj).symm
      · rw [ite_live j h, ite_live k h'] at *
        exact two j k hjk hj hk

/-! ### What the checks of a claim, an extension and an acceptance give -/

/-- Ranges of at least one page without a page in common are apart. -/
theorem apart_of_not_meet {a n b k : Nat} (hn : 1 ≤ n) (hk : 1 ≤ k) (h : ¬ Meet a n b k) : Apart a n b k := by
  by_contra apart
  rw [Apart, not_or, not_le, not_le] at apart
  exact h ⟨max a b, by omega⟩

theorem apart_of_rangesMeet {a n b k : Nat} (hn : 1 ≤ n) (hk : 1 ≤ k) (h : rangesMeet a n b k = false) :
    Apart a n b k :=
  apart_of_not_meet hn hk fun meet => by rw [rangesMeet_iff.2 meet] at h; cases h

/-- A range that grows by pages apart from another range is apart from it. -/
theorem apart_add {a n m b k : Nat} (hk : 1 ≤ k) (h : Apart a n b k) (h' : Apart (a + n) m b k) :
    Apart a (n + m) b k := by
  unfold Apart at *
  omega

theorem privateClear_iff {m : Master} {except : Slot → Bool} {base length : Nat} :
    s.privateClear m except base length = true ↔
      ∀ i, except i = false → (s.window i).live = true → (s.window i).layer = .priv → (s.window i).holder = m →
        rangesMeet base length (s.window i).fabricBase (s.window i).length = false := by
  simp only [State.privateClear, allSlots, List.all_eq_true, List.mem_finRange, true_implies]
  refine forall_congr' fun i => ?_
  cases except i <;> simp [or_iff_not_imp_left]

theorem commonClear_iff {except : Slot → Bool} {base length : Nat} :
    s.commonClear except base length = true ↔
      ∀ i, except i = false → (s.window i).live = true → (s.window i).layer = .common →
        rangesMeet base length (s.window i).fabricBase (s.window i).length = false := by
  simp only [State.commonClear, allSlots, List.all_eq_true, List.mem_finRange, true_implies]
  refine forall_congr' fun i => ?_
  cases except i <;> simp [or_iff_not_imp_left]

theorem targetClear_iff {except : Slot → Bool} {t : Target} {base length : Nat} :
    s.targetClear except t base length = true ↔
      ∀ i, except i = false → (s.window i).live = true → (s.window i).target = t →
        rangesMeet base length (s.window i).targetBase (s.window i).length = false := by
  simp only [State.targetClear, allSlots, List.all_eq_true, List.mem_finRange, true_implies]
  refine forall_congr' fun i => ?_
  cases except i <;> simp [or_iff_not_imp_left]

theorem belowAperture_iff {base length : Nat} : belowAperture base length = true ↔ base + length ≤ 65520 := by
  exact decide_eq_true_iff

theorem one_le_claimLength {p : Params} (h : rangeWordsInRange p = true) : 1 ≤ claimLength p := by
  simp only [rangeWordsInRange, Bool.and_eq_true, decide_eq_true_eq] at h
  omega

/-- A claim that passes its checks takes a lawful window. -/
theorem lawful_claim (hs : LawfulWindows s) {m : Master} {p : Params} (i : Slot)
    (pass : ∀ c ∈ claimChecks m p s, c.1 = true) :
    LawfulWindows (s.setWindow i (claimedWindow (s.window i).gen .priv m none p)) := by
  simp only [claimChecks, List.forall_mem_cons, claimInRange, Bool.and_eq_true, bne_iff_ne, belowAperture_iff,
    decide_eq_true_eq, privateClear_iff, targetClear_iff, noSlots] at pass
  obtain ⟨⟨range, -⟩, lease, rights, below, -, fabric, fits, target, -⟩ := pass
  have length := one_le_claimLength range
  refine lawfulWindows_setWindow hs ⟨length, below, fits, rights, fun _ => ⟨?_, rfl⟩, nofun⟩
    fun j _ hj => ⟨fun e => ?_, nofun, ?_⟩
  · simp [claimedWindow, claimPeriod, lease]
  · exact apart_of_rangesMeet length ((lawfulWindows_iff.1 hs).1 j hj).length (target j trivial hj e.symm)
  · exact fun _ hp e => apart_of_rangesMeet length ((lawfulWindows_iff.1 hs).1 j hj).length
      (fabric j trivial hj hp e.symm)

theorem lawful_claimCommon (hs : LawfulWindows s) {m : Master} {p : Params} (i : Slot)
    (pass : ∀ c ∈ claimCommonChecks m p s, c.1 = true) :
    LawfulWindows (s.setWindow i (claimedWindow (s.window i).gen .common 0 (some (claimMembers p)) p)) := by
  simp only [claimCommonChecks, List.forall_mem_cons, claimCommonInRange, Bool.and_eq_true, bne_iff_ne,
    belowAperture_iff, decide_eq_true_eq, commonClear_iff, targetClear_iff, noSlots] at pass
  obtain ⟨-, ⟨range, -⟩, rights, below, fabric, fits, target, -⟩ := pass
  have length := one_le_claimLength range
  refine lawfulWindows_setWindow hs ⟨length, below, fits, rights, nofun, fun _ => ⟨rfl, rfl⟩⟩
    fun j _ hj => ⟨fun e => ?_, ?_, nofun⟩
  · exact apart_of_rangesMeet length ((lawfulWindows_iff.1 hs).1 j hj).length (target j trivial hj e.symm)
  · exact fun _ hc => apart_of_rangesMeet length ((lawfulWindows_iff.1 hs).1 j hj).length (fabric j trivial hj hc)

theorem live_of_current {h : Handle} (hc : s.current h = true) : (s.window h.slot).live = true := by
  simp only [State.current, Bool.and_eq_true] at hc
  exact hc.1

/-- An EXTEND that passes its checks leaves a lawful window: the pages it adds are apart from the others' pages. -/
theorem lawful_extend (hs : LawfulWindows s) {m : Master} {p : Params}
    (pass : ∀ c ∈ extendChecks m p s, c.1 = true) :
    LawfulWindows (s.setWindow (handleOf p.p0).slot
      { s.window (handleOf p.p0).slot with length := (s.window (handleOf p.p0).slot).length + extendPages p }) := by
  simp only [extendChecks, List.forall_mem_cons, extendInRange, Bool.and_eq_true, belowAperture_iff,
    decide_eq_true_eq, targetClear_iff, beq_eq_false_iff_ne] at pass
  obtain ⟨⟨-, pages⟩, current, -, -, below, fabric, fits, target, -⟩ := pass
  have live := live_of_current current
  obtain ⟨one, two⟩ := lawfulWindows_iff.1 hs
  obtain ⟨length, -, -, rights, priv, common⟩ := one _ live
  refine lawfulWindows_setWindow hs ⟨by dsimp only; omega, below, by dsimp only; omega, rights, priv, common⟩
    fun j hji hj => ?_
  obtain ⟨targets, commons, privs⟩ := two _ j (Ne.symm hji) live hj
  have positive := (one j hj).length
  refine ⟨fun e => ?_, fun hw hv => ?_, fun hw hv e => ?_⟩
  · exact apart_add positive (targets e) (apart_of_rangesMeet pages positive (target j hji hj e.symm))
  · replace hw : (s.window (handleOf p.p0).slot).layer = .common := hw
    simp only [extendClear, hw, commonClear_iff, beq_eq_false_iff_ne] at fabric
    exact apart_add positive (commons hw hv)
      (apart_of_rangesMeet pages positive (fabric j hji hj hv))
  · replace hw : (s.window (handleOf p.p0).slot).layer = .priv := hw
    simp only [extendClear, hw, privateClear_iff, beq_eq_false_iff_ne] at fabric
    exact apart_add positive (privs hw hv e)
      (apart_of_rangesMeet pages positive (fabric j hji hj hv e.symm))

/-- A window that takes the place of a live one whose shape it has leaves the tables lawful. -/
theorem lawfulWindows_reshape (hs : LawfulWindows s) {i : Slot} {v : Window} (live : (s.window i).live = true)
    (shape : (s.window i).SameShape v) : LawfulWindows (s.setWindow i v) := by
  refine lawfulWindows_of_narrows hs (fun j hj => ?_) fun _ => rfl
  rw [State.window_setWindow] at hj ⊢
  split
  case isTrue e => subst e; exact ⟨live, shape⟩
  case isFalse e => rw [if_neg e] at hj; exact ⟨hj, .refl _⟩

theorem lawful_setMembers (hs : LawfulWindows s) {m : Master} {p : Params}
    (pass : ∀ c ∈ setMembersChecks m p s, c.1 = true) :
    LawfulWindows (s.setWindow (handleOf p.p0).slot
      { s.window (handleOf p.p0).slot with members := some (membersParam p) }) := by
  simp only [setMembersChecks, List.forall_mem_cons, beq_iff_eq] at pass
  obtain ⟨-, -, current, layer, -⟩ := pass
  have live := live_of_current current
  obtain ⟨one, two⟩ := lawfulWindows_iff.1 hs
  obtain ⟨length, below, fits, rights, -, common⟩ := one _ live
  refine lawfulWindows_setWindow hs ⟨length, below, fits, rights, fun hp => ?_, fun hc => ⟨(common hc).1, rfl⟩⟩
    fun j hji hj => ?_
  · exact absurd (layer.symm.trans hp) (by decide)
  · obtain ⟨targets, commons, privs⟩ := two _ j (Ne.symm hji) live hj
    exact ⟨targets, commons, privs⟩

/-- An ACCEPT that passes its checks moves a window of the `priv` layer to a holder that has none over its pages. -/
theorem lawful_accept (hs : LawfulWindows s) (offers : OfferLaw s) {m : Master} {p : Params}
    (pass : ∀ c ∈ acceptChecks m p s, c.1 = true) :
    LawfulWindows (s.setWindow (handleOf p.p0).slot (acceptedWindow m (s.window (handleOf p.p0).slot))) := by
  simp only [acceptChecks, List.forall_mem_cons, privateClear_iff, noSlots] at pass
  obtain ⟨-, current, offered, -, fabric, -⟩ := pass
  have live := live_of_current current
  obtain ⟨o, ho, -⟩ := Window.offeredTo_iff.1 offered
  obtain ⟨-, -, layer⟩ := (offers _).2 o ho
  obtain ⟨one, two⟩ := lawfulWindows_iff.1 hs
  obtain ⟨length, below, fits, rights, priv, -⟩ := one _ live
  refine lawfulWindows_setWindow hs ⟨length, below, fits, rights, priv, fun hc => ?_⟩ fun j hji hj => ?_
  · exact absurd (layer.symm.trans hc) (by decide)
  · obtain ⟨targets, commons, -⟩ := two _ j (Ne.symm hji) live hj
    exact ⟨targets, commons, fun _ hv e =>
      apart_of_rangesMeet length (one j hj).length (fabric j trivial hj hv e.symm)⟩

/-- A command that writes a window leaves the tables lawful. -/
theorem SlotCommand.lawful {m : Master} {id : CmdId} {i : Slot} {v : Window} (h : SlotCommand s m id i v)
    (offers : OfferLaw s) (hs : LawfulWindows s) : LawfulWindows (s.setWindow i v) := by
  cases h with
  | claim p i _ pass => exact lawful_claim hs i pass
  | claimCommon p i _ pass => exact lawful_claimCommon hs i pass
  | extend p pass => exact lawful_extend hs pass
  | setMembers p pass => exact lawful_setMembers hs pass
  | offer p pass =>
    simp only [offerChecks, List.forall_mem_cons] at pass
    exact lawfulWindows_reshape hs (live_of_current pass.2.1)
      { Window.SameShape.refl (s.window (handleOf p.p0).slot) with }
  | accept p pass => exact lawful_accept hs offers pass

/-- The window a command writes is live. -/
theorem SlotCommand.live {m : Master} {id : CmdId} {i : Slot} {v : Window} (h : SlotCommand s m id i v) :
    v.live = true := by
  cases h with
  | claim => rfl
  | claimCommon => rfl
  | extend p pass =>
    simp only [extendChecks, List.forall_mem_cons] at pass
    exact live_of_current (h := handleOf p.p0) pass.2.1
  | setMembers p pass =>
    simp only [setMembersChecks, List.forall_mem_cons] at pass
    exact live_of_current (h := handleOf p.p0) pass.2.2.1
  | offer => rfl
  | accept => rfl

/-! ### Lawful windows across every change -/

theorem Moves.narrows (h : Moves s u) (hs : NoGhosts s) : Narrows s u := h.keepsTables.narrows hs

theorem Moves.lawfulWindows (h : Moves s u) (ghosts : NoGhosts s) (hs : LawfulWindows s) : LawfulWindows u :=
  lawfulWindows_of_narrows hs (h.narrows ghosts) fun t => by rw [h.settings]

theorem lawfulWindows_of_eq (hs : LawfulWindows s) (hw : ∀ i, u.window i = s.window i)
    (ht : ∀ t, (u.target t).settings = (s.target t).settings) : LawfulWindows u :=
  lawfulWindows_of_narrows hs (fun i h => by rw [hw] at h ⊢; exact ⟨h, .refl _⟩) fun t => by rw [ht]

theorem noGhosts_of_eq (hs : NoGhosts s) (hw : ∀ i, u.window i = s.window i) : NoGhosts u := fun i => by
  rw [hw]; exact hs i

theorem bits_le {w : Word} {hi lo n : Nat} (h : 2 ^ (hi + 1 - lo) = n + 1 := by decide) : bits w hi lo ≤ n := by
  have below : bits w hi lo < 2 ^ (hi + 1 - lo) := (w.extractLsb' lo (hi + 1 - lo)).isLt
  omega

/-- The parameters of SET_TARGET in range name settings in range, with the size of P1 (R61). -/
theorem settingsParam_of_inRange {p : Params} (h : setTargetInRange p = true) :
    ∃ c, settingsParam p = some c ∧ c.size = bits p.p1 16 0 ∧ SettingsInRange c := by
  unfold setTargetInRange at h
  split at h
  case h_1 c e =>
    simp only [Bool.and_eq_true, decide_eq_true_eq] at h
    obtain ⟨-, ⟨size, wait⟩, limit⟩ := h
    obtain ⟨w, -, rfl⟩ := Option.map_eq_some_iff.1 e
    exact ⟨_, e, rfl, size, wait, bits_le, bits_le, limit, bits_le⟩
  case h_2 => simp at h

/-- SET_TARGET leaves every live window within the target (R61). -/
theorem lawful_resized (hs : LawfulWindows s) {m : Master} {p : Params}
    (pass : ∀ c ∈ setTargetChecks m p s, c.1 = true) :
    LawfulWindows (s.setTarget (targetParam p.p0)
      { s.target (targetParam p.p0) with
        settings := (settingsParam p).getD (s.target (targetParam p.p0)).settings }) := by
  simp only [setTargetChecks, List.forall_mem_cons, State.fitsTarget, allSlots, List.all_eq_true, List.mem_finRange,
    true_implies] at pass
  obtain ⟨-, range, -, fits, -⟩ := pass
  obtain ⟨c, param, size, -⟩ := settingsParam_of_inRange range
  obtain ⟨one, two⟩ := lawfulWindows_iff.1 hs
  refine lawfulWindows_iff.2 ⟨fun i hi => ?_, two⟩
  obtain ⟨length, below, within, rights, priv, common⟩ := one i hi
  refine ⟨length, below, ?_, rights, priv, common⟩
  rw [State.target_setTarget]
  split
  case isTrue e =>
    have kept := fits i
    rw [show (s.window i).live = true from hi, show (s.window i).target = _ from e] at kept
    simpa [param, size] using kept
  case isFalse => exact within

theorem Row.lawfulWindows (h : Row s u) (offers : OfferLaw s) (hs : LawfulWindows s) : LawfulWindows u := by
  have ghosts := noGhosts_of_offerLaw offers
  have finished (x : Execution) {c : Completion} (hc : LawfulWindows c.state) : LawfulWindows (finish x c) :=
    lawfulWindows_of_eq hc (by simp) (by simp)
  cases h with
  | moves h => exact h.lawfulWindows ghosts hs
  | completion x c _ h => exact finished x (h.lawfulWindows ghosts hs)
  | slot x c id i v _ hv _ h =>
    exact finished x (h.lawfulWindows (ghosts.setWindow hv.live) (hv.lawful offers hs))
  | resized x c p _ pass h =>
    refine finished x ?_
    rw [h]
    exact lawful_resized hs pass
  | detached x c n _ _ _ h =>
    refine finished x ?_
    rw [h, detachEffect_eq]
    have tables := (detachTables_moves n s).lawfulWindows ghosts hs
    exact lawfulWindows_of_eq tables (by simp) (by simp)
  | granted => exact hs
  | written m b _ h => exact h.lawfulWindows (s := s.setMailbox m b) ghosts hs
  | masterReset n h =>
    have windows := resetMailboxOf_window n (s.setPort n (s.port n).assertReset)
    have settings := resetMailboxOf_target n (s.setPort n (s.port n).assertReset)
    exact h.lawfulWindows (noGhosts_of_eq ghosts windows)
      (lawfulWindows_of_eq hs windows fun t => by rw [settings]; rfl)

theorem assertDeviceReset_window (s : State) (i : Slot) :
    (assertDeviceReset s).window i = if i = 0 then resetWindow else freeWindow 0#4 := resetWindows_get i

theorem assertDeviceReset_target (s : State) (t : Target) :
    (assertDeviceReset s).target t = resetTarget t (s.target t).lines := by
  simp [assertDeviceReset, State.target]

/-- After a device reset slot 0 alone is live, with the common window of R22. -/
theorem assertDeviceReset_lawfulWindows (s : State) : LawfulWindows (assertDeviceReset s) := by
  have live (i : Slot) (h : ((assertDeviceReset s).window i).live = true) : i = 0 := by
    by_contra e
    rw [assertDeviceReset_window, if_neg e] at h
    exact absurd h (by decide)
  refine lawfulWindows_iff.2 ⟨fun i hi => ?_, fun i j hij hi hj => absurd ((live i hi).trans (live j hj).symm) hij⟩
  rw [live i hi, assertDeviceReset_window, if_pos rfl, assertDeviceReset_target]
  exact ⟨by decide, by decide, (by decide : 256 ≤ 4096), by decide, by decide, by decide⟩

/-- Settles O49: every change keeps the laws of live windows, and a device reset leaves a table that meets them. -/
theorem lawfulWindowsKeptByEveryStep : Obligations.LawfulWindowsKeptByEveryStep := by
  intro s u offers hs h
  obtain ⟨-, q, rfl⟩ | ⟨q, row⟩ := step_row h
  · exact assertDeviceReset_lawfulWindows _
  · exact row.lawfulWindows (s := { s with pending := q }) offers hs

/-! ### The quota -/

/-- A live window in the `priv` layer of a master. -/
def Window.heldBy (w : Window) (m : Master) : Bool := w.live && w.layer == .priv && w.holder == m

theorem heldPrivate_eq (s : State) (m : Master) :
    s.heldPrivate m = allSlots.countP fun i => (s.window i).heldBy m := rfl

theorem Window.heldBy_iff {w : Window} {m : Master} :
    w.heldBy m = true ↔ w.live = true ∧ w.layer = .priv ∧ w.holder = m := by
  simp [Window.heldBy, and_assoc]

theorem heldPrivate_le {m : Master} (h : ∀ i, (u.window i).heldBy m = true → (s.window i).heldBy m = true) :
    u.heldPrivate m ≤ s.heldPrivate m :=
  List.countP_mono_left fun i _ => h i

theorem Narrows.heldPrivate_le (h : Narrows s u) (m : Master) : u.heldPrivate m ≤ s.heldPrivate m := by
  refine Machine.heldPrivate_le fun i hi => ?_
  rw [Window.heldBy_iff] at hi ⊢
  obtain ⟨live, layer, holder⟩ := hi
  obtain ⟨was, shape⟩ := h i live
  exact ⟨was, shape.layer ▸ layer, shape.holder ▸ holder⟩

theorem heldPrivate_of_eq (h : ∀ i, u.window i = s.window i) (m : Master) : u.heldPrivate m = s.heldPrivate m := by
  simp only [heldPrivate_eq, h]

theorem heldPrivate_setWindow_le {i : Slot} {v : Window} {m : Master}
    (h : v.heldBy m = true → (s.window i).heldBy m = true) : (s.setWindow i v).heldPrivate m ≤ s.heldPrivate m := by
  refine heldPrivate_le fun j hj => ?_
  rw [State.window_setWindow] at hj
  split at hj
  case isTrue e => exact e ▸ h hj
  case isFalse => exact hj

theorem countP_or_le {α : Type} (p q : α → Bool) (l : List α) :
    l.countP (fun a => p a || q a) ≤ l.countP p + l.countP q := by
  induction l with
  | nil => simp
  | cons a l ih => cases hp : p a <;> cases hq : q a <;> simp [hp, hq] <;> omega

theorem countP_allSlots_eq (i : Slot) : allSlots.countP (fun j => j == i) = 1 :=
  List.count_eq_one_of_mem (List.nodup_finRange 32) (List.mem_finRange i)

/-- One slot changes the number of windows a master holds by one at most. -/
theorem heldPrivate_setWindow_le_succ (s : State) (i : Slot) (v : Window) (m : Master) :
    (s.setWindow i v).heldPrivate m ≤ s.heldPrivate m + 1 := by
  calc
    (s.setWindow i v).heldPrivate m
      ≤ allSlots.countP fun j => (s.window j).heldBy m || j == i := by
        refine List.countP_mono_left fun j _ hj => ?_
        rw [State.window_setWindow] at hj
        split at hj
        case isTrue e => simp [e]
        case isFalse => simpa using .inl hj
    _ ≤ s.heldPrivate m + 1 := by
        rw [heldPrivate_eq, ← countP_allSlots_eq i]
        exact countP_or_le ..

theorem heldPrivate_setWindow_sameShape {i : Slot} {v : Window} (live : (s.window i).live = true)
    (shape : (s.window i).SameShape v) (m : Master) : (s.setWindow i v).heldPrivate m ≤ s.heldPrivate m := by
  refine heldPrivate_setWindow_le fun hv => ?_
  rw [Window.heldBy_iff] at hv ⊢
  exact ⟨live, shape.layer ▸ hv.2.1, shape.holder ▸ hv.2.2⟩

/-- A window for a master below its quota passes no master's quota. -/
theorem heldPrivate_setWindow_of_quota {i : Slot} {v : Window}
    (quota : s.heldPrivate v.holder < (s.master v.holder).quota)
    (m : Master) :
    (s.setWindow i v).heldPrivate m ≤ s.heldPrivate m ∨ (s.setWindow i v).heldPrivate m ≤ (s.master m).quota := by
  by_cases e : m = v.holder
  · subst e
    exact .inr ((heldPrivate_setWindow_le_succ ..).trans quota)
  · refine .inl (heldPrivate_setWindow_le fun held => ?_)
    exact absurd (Window.heldBy_iff.1 held).2.2.symm e

/-- A command that writes a window gives a window to a master below its quota or to none. -/
theorem SlotCommand.heldPrivate_le {m : Master} {id : CmdId} {i : Slot} {v : Window} (h : SlotCommand s m id i v)
    (n : Master) :
    (s.setWindow i v).heldPrivate n ≤ s.heldPrivate n ∨ (s.setWindow i v).heldPrivate n ≤ (s.master n).quota := by
  cases h with
  | claim p i _ pass =>
    simp only [claimChecks, List.forall_mem_cons, decide_eq_true_eq] at pass
    obtain ⟨-, -, -, -, quota, -⟩ := pass
    exact heldPrivate_setWindow_of_quota quota n
  | claimCommon =>
    exact .inl (heldPrivate_setWindow_le fun held => absurd (Window.heldBy_iff.1 held).2.1 (by simp [claimedWindow]))
  | extend => exact .inl (heldPrivate_setWindow_le id)
  | setMembers => exact .inl (heldPrivate_setWindow_le id)
  | offer p pass =>
    simp only [offerChecks, List.forall_mem_cons] at pass
    refine .inl (heldPrivate_setWindow_sameShape (live_of_current pass.2.1) ?_ n)
    exact { Window.SameShape.refl (s.window (handleOf p.p0).slot) with }
  | accept p pass =>
    simp only [acceptChecks, List.forall_mem_cons, decide_eq_true_eq] at pass
    obtain ⟨-, -, -, quota, -⟩ := pass
    exact heldPrivate_setWindow_of_quota quota n

theorem Row.heldPrivate_le (h : Row s u) (ghosts : NoGhosts s) (m : Master) :
    u.heldPrivate m ≤ s.heldPrivate m ∨ u.heldPrivate m ≤ (u.master m).quota := by
  have finished (x : Execution) (c : Completion) : (finish x c).heldPrivate m = c.state.heldPrivate m :=
    heldPrivate_of_eq (by simp) m
  cases h with
  | moves h => exact .inl ((h.narrows ghosts).heldPrivate_le m)
  | completion x c _ h =>
    rw [finished]
    exact .inl ((h.narrows ghosts).heldPrivate_le m)
  | slot x c id i v _ hv hq h =>
    have kept := (h.narrows (ghosts.setWindow hv.live)).heldPrivate_le m
    rw [finished, finish_master, hq]
    exact (hv.heldPrivate_le m).imp kept.trans kept.trans
  | resized x c p _ _ h =>
    rw [finished, h]
    exact .inl le_rfl
  | detached x c n _ _ _ h =>
    rw [finished, h, detachEffect_eq, heldPrivate_of_eq (detachMailbox_window n _)]
    exact .inl (((detachTables_moves n s).narrows ghosts).heldPrivate_le m)
  | granted => exact .inl le_rfl
  | written n b _ h => exact .inl ((h.narrows (s := s.setMailbox n b) ghosts).heldPrivate_le m)
  | masterReset n h =>
    have windows := resetMailboxOf_window n (s.setPort n (s.port n).assertReset)
    refine .inl (((h.narrows (noGhosts_of_eq ghosts windows)).heldPrivate_le m).trans_eq ?_)
    exact heldPrivate_of_eq windows m

theorem assertDeviceReset_heldPrivate (s : State) (m : Master) : (assertDeviceReset s).heldPrivate m = 0 := by
  rw [heldPrivate_eq, List.countP_eq_zero]
  intro i _ held
  rw [assertDeviceReset_window, Window.heldBy_iff] at held
  split at held
  · exact absurd held.2.1 (by decide)
  · exact absurd held.1 (by decide)

/-- Settles O57: a window is gained below the quota alone, whatever change the step is. -/
theorem quotaBoundsEveryGain : Obligations.QuotaBoundsEveryGain := by
  intro s u m offers h
  obtain ⟨-, q, rfl⟩ | ⟨q, row⟩ := step_row h
  · rw [assertDeviceReset_heldPrivate]
    exact .inl (Nat.zero_le _)
  · exact row.heldPrivate_le (s := { s with pending := q }) (noGhosts_of_offerLaw offers) m

end

end Sys2Proof.Machine
end

section
/-! OFFLINE masters (R73, R161). The moves give no master a window or an offer, a claim and an ACCEPT are commands an
OFFLINE master does not get to the engine, an OFFER names no OFFLINE recipient, and DETACH leaves its master without
either. -/

namespace Sys2Proof.Machine

open Sys2Proof.Safety

section
variable {s u : State}

/-! ### Windows and offers of a master -/

/-- A master without a window of its own layer in ACTIVE, OFFERED or LAPSED and without an offer. -/
def WithoutWindows (s : State) (m : Master) : Prop :=
  ∀ i, (s.window i).retirableOf m = false ∧ (s.window i).offeredTo m = false

/-- Of the commands of a master in its mailbox and in the engine, only those served for an OFFLINE one. -/
def OnlyServed (b : Mailbox) (execution : Option Execution) (m : Master) : Prop :=
  (b.state = .submitted → servedOffline m (b.command.getD 0#8) b.captured = true) ∧
    ∀ x ∈ execution, x.master = m → servedOffline m x.command x.params = true

theorem offlineLaw_iff :
    OfflineLaw s ↔ ∀ m, (s.master m).state = .offline →
      WithoutWindows s m ∧ OnlyServed (s.mailbox m) s.engine.execution m := Iff.rfl

/-- In every slot the state OFFERED and the offer field agree (R131). -/
def OffersMarked (s : State) : Prop := ∀ i, (s.window i).OfferMarked

theorem offersMarked_of_offerLaw (h : OfferLaw s) : OffersMarked s := fun i => (h i).1

theorem OffersMarked.noGhosts (h : OffersMarked s) : NoGhosts s := by
  intro i
  by_cases live : (s.window i).live = true
  · exact .inl live
  · have free : (s.window i).state = .free := by simpa [Window.live] using live
    exact .inr ⟨free, by simpa [Window.OfferMarked, free] using h i⟩

theorem OffersMarked.setWindow (h : OffersMarked s) {i : Slot} {v : Window} (hv : v.OfferMarked) :
    OffersMarked (s.setWindow i v) := by
  intro j
  rw [State.window_setWindow]
  split
  case isTrue => exact hv
  case isFalse => exact h j

theorem Window.retirableOf_iff {w : Window} {m : Master} :
    w.retirableOf m = true ↔
      w.layer = .priv ∧ w.holder = m ∧ (w.state = .active ∨ w.state = .offered ∨ w.state = .lapsed) := by
  simp [Window.retirableOf, and_assoc, or_assoc]

theorem Window.retirableOf_iff_of_live {w : Window} {m : Master} (h : w.live = true) :
    w.retirableOf m = true ↔ w.layer = .priv ∧ w.holder = m ∧ w.state ≠ .draining := by
  have live := Window.live_iff.1 h
  rw [Window.retirableOf_iff]
  cases hs : w.state <;> simp_all

theorem Window.Keeps.offeredTo {w v : Window} (h : w.Keeps v) {m : Master} (hv : v.offeredTo m = true) :
    w.offeredTo m = true := by
  obtain ⟨o', ho', rfl⟩ := Window.offeredTo_iff.1 hv
  obtain ⟨o, ho, e⟩ := h.offer o' ho'
  exact Window.offeredTo_iff.2 ⟨o, ho, e.symm⟩

/-- The moves give no master a window or an offer. -/
theorem Moves.withoutWindows (h : Moves s u) (marked : OffersMarked s) {m : Master} (hs : WithoutWindows s m) :
    WithoutWindows u m := by
  intro i
  obtain ⟨none, unnamed⟩ := hs i
  have keeps := h.keepsTables.window i
  constructor
  · by_contra held
    rw [Bool.not_eq_false] at held
    have live := Window.live_of_retirableOf held
    obtain ⟨was, shape⟩ := h.narrows marked.noGhosts i live
    obtain ⟨layer, holder, standing⟩ := (Window.retirableOf_iff_of_live live).1 held
    refine absurd ((Window.retirableOf_iff_of_live was).2 ⟨shape.layer ▸ layer, shape.holder ▸ holder, fun hd => ?_⟩)
      (by simp [none])
    have offer : (s.window i).offer = Option.none := by simpa [Window.OfferMarked, hd] using marked i
    exact standing (keeps.drained hd offer live).1
  · by_contra offered
    rw [Bool.not_eq_false] at offered
    simp [keeps.offeredTo offered] at unnamed

theorem withoutWindows_of_eq {m : Master} (hs : WithoutWindows s m) (h : ∀ i, u.window i = s.window i) :
    WithoutWindows u m := fun i => by rw [h]; exact hs i

theorem offersMarked_of_eq (hs : OffersMarked s) (h : ∀ i, u.window i = s.window i) : OffersMarked u := fun i => by
  rw [h]; exact hs i

theorem offline_of_moves (h : Moves s u) {m : Master} (hu : (u.master m).state = .offline) :
    (s.master m).state = .offline := h.keepsTables.offline m hu

/-! ### The commands that write a window -/

theorem SlotCommand.offerMarked {m : Master} {id : CmdId} {i : Slot} {v : Window} (h : SlotCommand s m id i v)
    (marked : OffersMarked s) : v.OfferMarked := by
  cases h with
  | claim => simp [Window.OfferMarked, claimedWindow]
  | claimCommon => simp [Window.OfferMarked, claimedWindow]
  | extend => exact marked _
  | setMembers => exact marked _
  | offer => simp [Window.OfferMarked]
  | accept => simp [Window.OfferMarked, acceptedWindow]

/-- A command that writes a window gives an OFFLINE master none, as a claim and an ACCEPT are not served for it, and no
offer. -/
theorem SlotCommand.withoutWindows {m n : Master} {id : CmdId} {i : Slot} {v : Window} (h : SlotCommand s m id i v)
    (offline : (s.master n).state = .offline) (served : m = n → id ≠ .claim ∧ id ≠ .accept)
    (hs : WithoutWindows s n) : WithoutWindows (s.setWindow i v) n := by
  have written (hv : v.retirableOf n = false ∧ v.offeredTo n = false) : WithoutWindows (s.setWindow i v) n := by
    intro j
    rw [State.window_setWindow]
    split
    case isTrue => exact hv
    case isFalse => exact hs j
  have others (other : v.holder = m) (taken : id = .claim ∨ id = .accept) : v.retirableOf n = false := by
    by_contra held
    rw [Bool.not_eq_false, Window.retirableOf_iff] at held
    obtain ⟨claim, accept⟩ := served (other.symm.trans held.2.1)
    exact taken.elim claim accept
  refine written ?_
  cases h with
  | claim => exact ⟨others rfl (.inl rfl), rfl⟩
  | claimCommon => exact ⟨rfl, rfl⟩
  | extend => exact hs _
  | setMembers => exact hs _
  | offer p pass =>
    simp only [offerChecks, List.forall_mem_cons, beq_iff_eq, bne_iff_ne] at pass
    obtain ⟨-, -, -, active, layer, -, recipient, -⟩ := pass
    have unheld := (hs (handleOf p.p0).slot).1
    simp only [Window.retirableOf, active, layer] at unheld
    refine ⟨by simpa [Window.retirableOf, layer] using unheld, ?_⟩
    by_contra named
    obtain ⟨o, ho, rfl⟩ := Window.offeredTo_iff.1 (Bool.not_eq_false _ ▸ named)
    obtain rfl := Option.some.inj ho
    exact recipient offline
  | accept => exact ⟨others rfl (.inr rfl), rfl⟩

theorem ne_of_servedOffline {m : Master} {c : BitVec 8} {p : Params} {id : CmdId}
    (h : servedOffline m c p = true) (hc : CmdId.ofCode c.toNat = some id) : id ≠ .claim ∧ id ≠ .accept := by
  constructor <;> rintro rfl <;> simp [servedOffline, hc] at h

/-! ### DETACH -/

/-- Retiring the windows of a master leaves it none in ACTIVE, OFFERED or LAPSED. -/
theorem retireWindowsOf_retirableOf (c : RetireCause) (n : Master) (s : State) (j : Slot) :
    ((retireWindowsOf c n s).window j).retirableOf n = false := by
  refine foldl_allSlots_window (R := fun _ v => v.retirableOf n = false) (fun s i => ?own) (fun s i j h => ?other) s j
  case own =>
    split
    case isTrue =>
      rw [retire_window, if_pos rfl]
      split
      · simp [Window.retirableOf, freeWindow]
      · simp [Window.retirableOf]
    case isFalse h => simpa using h
  case other => split <;> simp [retire_window, h]

theorem detachTables_withoutWindows (n : Master) (s : State) : WithoutWindows (detachTables n s) n := by
  intro i
  refine ⟨retireWindowsOf_retirableOf _ n _ i, ?_⟩
  by_contra named
  rw [Bool.not_eq_false] at named
  have keeps := (retireWindowsOf_moves .detach n (declineOffersTo n (madeOffline n s))).keepsTables.window i
  exact absurd (keeps.offeredTo named) (by simp [declineOffersTo_offeredTo])

/-! ### The law across every change -/

theorem Moves.offlineLaw (h : Moves s u) (marked : OffersMarked s) (hs : OfflineLaw s) : OfflineLaw u := by
  rw [offlineLaw_iff] at hs ⊢
  intro m offline
  obtain ⟨without, served⟩ := hs m (offline_of_moves h offline)
  rw [h.mailbox, h.engine]
  exact ⟨h.withoutWindows marked without, served⟩

/-- A completion: the engine is IDLE, and a mailbox it writes is DONE. -/
theorem OnlyServed.finish {x : Execution} {c : Completion} {m : Master}
    (h : OnlyServed (c.state.mailbox m) none m) :
    OnlyServed ((finish x c).mailbox m) (finish x c).engine.execution m := by
  rw [finish_engine, finish_mailbox]
  refine ⟨fun submitted => ?_, by simp⟩
  split at submitted
  · simp at submitted
  case isFalse e => rw [if_neg e]; exact h.1 submitted

theorem OnlyServed.idle {b : Mailbox} {e : Option Execution} {m : Master} (h : OnlyServed b e m) :
    OnlyServed b none m := ⟨h.1, by simp⟩

/-- The taking of an aperture write leaves no command of an OFFLINE master SUBMITTED but those served. -/
theorem MailboxWrite.onlyServed {m : Master} {b : Mailbox} {e : Option Execution} (h : MailboxWrite s m b)
    (offline : (s.master m).state = .offline) (hs : OnlyServed (s.mailbox m) e m) : OnlyServed b e m := by
  cases h with
  | param => exact hs
  | submission w =>
    refine ⟨fun state => ?_, hs.2⟩
    unfold submitted at state ⊢
    dsimp only at state ⊢
    split at state
    · cases state
    case isFalse unserved =>
      rw [if_neg unserved]
      simpa [offline, Mailbox.capture] using unserved

theorem offline_detachTables {n m : Master} (h : ((detachTables n s).master m).state = .offline) (hm : m ≠ n) :
    (s.master m).state = .offline := by
  have made := offline_of_moves (detachTables_moves n s) h
  rwa [madeOffline_master_state, if_neg hm] at made

theorem offlineLaw_detached (marked : OffersMarked s) (hs : OfflineLaw s) (x : Execution) {c : Completion} {n : Master}
    (h : c.state = detachEffect n s) : OfflineLaw (finish x c) := by
  rw [offlineLaw_iff] at hs ⊢
  intro m offline
  rw [finish_master, h, detachEffect_eq, detachMailbox_master] at offline
  have windows (i : Slot) : (finish x c).window i = (detachTables n s).window i := by
    rw [finish_window, h, detachEffect_eq, detachMailbox_window]
  have mailbox : (detachTables n s).mailbox m = s.mailbox m := (detachTables_moves n s).mailbox m
  by_cases e : m = n
  · subst e
    refine ⟨withoutWindows_of_eq (detachTables_withoutWindows m s) windows,
      OnlyServed.finish ⟨fun submitted => ?_, by simp⟩⟩
    rw [h, detachEffect_eq, detachMailbox_mailbox] at submitted
    split at submitted
    · cases submitted
    case isFalse e => exact absurd ⟨rfl, submitted⟩ e
  · obtain ⟨without, served⟩ := hs m (offline_detachTables offline e)
    have kept : WithoutWindows (detachTables n s) m := (detachTables_moves n s).withoutWindows marked without
    refine ⟨withoutWindows_of_eq kept windows, OnlyServed.finish ?_⟩
    rw [h, detachEffect_eq, detachMailbox_mailbox, if_neg (fun h => e h.1), mailbox]
    exact served.idle

theorem Row.offlineLaw (h : Row s u) (marked : OffersMarked s) (hs : OfflineLaw s) : OfflineLaw u := by
  have law := offlineLaw_iff.1 hs
  have finished (x : Execution) {c : Completion} (hc : ∀ m, (c.state.master m).state = .offline →
      WithoutWindows c.state m ∧ OnlyServed (c.state.mailbox m) none m) : OfflineLaw (finish x c) := by
    refine offlineLaw_iff.2 fun m offline => ?_
    rw [finish_master] at offline
    obtain ⟨without, served⟩ := hc m offline
    exact ⟨withoutWindows_of_eq without (finish_window x c), served.finish⟩
  cases h with
  | moves h => exact h.offlineLaw marked hs
  | completion x c _ h =>
    refine finished x fun m offline => ?_
    obtain ⟨without, served⟩ := offlineLaw_iff.1 (h.offlineLaw marked hs) m offline
    exact ⟨without, served.idle⟩
  | slot x c id i v hx hv _ h =>
    refine finished x fun m offline => ?_
    have before : (s.master m).state = .offline := offline_of_moves h offline
    obtain ⟨without, served⟩ := law m before
    have given := hv.withoutWindows before (fun e => ne_of_servedOffline (served.2 x hx.1 e) hx.2) without
    refine ⟨h.withoutWindows (marked.setWindow (hv.offerMarked marked)) given, ?_⟩
    rw [h.mailbox]
    exact served.idle
  | resized x c p _ _ h =>
    refine finished x fun m offline => ?_
    rw [h] at offline ⊢
    obtain ⟨without, served⟩ := law m offline
    exact ⟨without, served.idle⟩
  | detached x c n _ _ _ h => exact offlineLaw_detached marked hs x h
  | granted m hx hm =>
    refine offlineLaw_iff.2 fun n offline => ?_
    obtain ⟨without, served⟩ := law n offline
    refine ⟨without, ?_⟩
    rw [State.mailbox_with_engine, State.mailbox_setMailbox]
    refine ⟨fun submitted => ?_, fun x e => ?_⟩
    · split at submitted
      · cases submitted
      case isFalse e => rw [if_neg e]; exact served.1 submitted
    · obtain rfl := Option.some.inj e
      rintro rfl
      exact served.1 hm
  | written m b hb h =>
    refine h.offlineLaw marked (offlineLaw_iff.2 fun n offline => ?_)
    obtain ⟨without, served⟩ := law n offline
    refine ⟨without, ?_⟩
    rw [State.mailbox_setMailbox]
    split
    case isTrue e => subst e; exact hb.onlyServed offline served
    case isFalse => exact served
  | masterReset n h =>
    have windows := resetMailboxOf_window n (s.setPort n (s.port n).assertReset)
    refine h.offlineLaw (offersMarked_of_eq marked windows) (offlineLaw_iff.2 fun m offline => ?_)
    rw [resetMailboxOf_master] at offline
    obtain ⟨without, served⟩ := law m offline
    refine ⟨withoutWindows_of_eq without windows, ?_⟩
    rw [resetMailboxOf_mailbox, resetMailboxOf_engine]
    constructor
    · split
      · simp [resetMailbox]
      · exact served.1
    · split
      · intro x hx hm
        obtain ⟨y, hy, rfl⟩ := Option.map_eq_some_iff.1 hx
        exact served.2 y hy hm
      · exact served.2

theorem assertDeviceReset_offlineLaw (s : State) : OfflineLaw (assertDeviceReset s) := by
  intro m offline
  rw [show ((assertDeviceReset s).master m).state = .online from resetMasters_state m] at offline
  cases offline

/-- Settles O56: every change leaves OFFLINE masters without windows and offers, and a device reset leaves no master
OFFLINE. -/
theorem offlineMastersStayWithoutWindows : Obligations.OfflineMastersStayWithoutWindows := by
  intro s u offers hs h
  obtain ⟨-, q, rfl⟩ | ⟨q, row⟩ := step_row h
  · exact assertDeviceReset_offlineLaw _
  · exact row.offlineLaw (s := { s with pending := q }) (offersMarked_of_offerLaw offers) hs

end

end Sys2Proof.Machine
end

section
/-! The law of the target ports (R38, R47, R48): what each port move makes of a target port and of the waiting lists. -/

namespace Sys2Proof.Machine

open Sys2Proof.Safety

section
variable {s u : State}

/-! ### The target ports across a port move -/

theorem State.setTarget_target_keeps {P : TargetPort → Prop} (hs : ∀ t, P (s.target t)) {t : Target} {p : TargetPort}
    (h : P p) (g : Target) : P ((s.setTarget t p).target g) := by
  rw [State.target_setTarget]
  split
  case isTrue => exact h
  case isFalse => exact hs g

/-- What every target port meets before a port move it meets after it, when each change the move can make of one port
keeps it. -/
theorem PortMove.target_keeps {P : TargetPort → Prop}
    (admitted : ∀ p a m, p.state = .online → p.queue.length < 8 → P p →
      P { p with queue := p.queue ++ [a], pointer := m })
    (started : ∀ p a rest, p.state = .online → p.queue = a :: rest → P p →
      P { p.beginBeat with
        queue := rest
        running := some { access := a, beat := 0, bytes := [] }
        captured := some p.settings.capture })
    (edit : ∀ p q, p.Edit q → P p → P q)
    (ended : ∀ p, p.phase = .beat → P p → P { p.beginRecovery with running := none })
    (down : ∀ p state, P p → P { p with state := state, queue := [] })
    (h : PortMove s u) (hs : ∀ t, P (s.target t)) (g : Target) : P (u.target g) := by
  cases h with
  | accepted => exact hs g
  | returned => exact hs g
  | asserted => exact hs g
  | deasserted => exact hs g
  | refused => rw [answer_target, State.target_setPort]; exact hs g
  | served => rw [answer_target, popAperture, State.target_setPort]; exact hs g
  | hit => exact hs g
  | admitted t m a rest ht hq =>
    exact State.setTarget_target_keeps (s := s.setPort m _) hs (admitted _ a m ht hq (hs t)) g
  | started t a rest _ ht hq => exact State.setTarget_target_keeps hs (started _ a rest ht hq (hs t)) g
  | target t p h => exact State.setTarget_target_keeps hs (edit _ p h (hs t)) g
  | ended t r code data report hp =>
    rw [answer_target, countOut_target]
    exact State.setTarget_target_keeps hs (ended _ hp (hs t)) g
  | down t state =>
    rw [answerDown_target]
    split
    case isTrue => simpa using down _ state (hs t)
    case isFalse e => simpa [e] using hs g

/-- The law of one target port: that of its phase, and no access queued while it is not ONLINE. -/
structure TargetPort.Lawful (p : TargetPort) : Prop where
  phase : p.PhaseLaw
  queue : p.state ≠ .online → p.queue = []

theorem PortMove.target_lawful (h : PortMove s u) (hs : ∀ t, (s.target t).Lawful) (g : Target) :
    (u.target g).Lawful := by
  refine h.target_keeps (P := TargetPort.Lawful) ?admitted ?started ?edit ?ended ?down hs g
  case admitted => exact fun p a m ht _ hp => ⟨⟨hp.phase.idle, hp.phase.beat, hp.phase.busy⟩, fun h => absurd ht h⟩
  case started => exact fun p a rest ht _ _ => ⟨⟨nofun, fun _ => rfl, fun _ => rfl⟩, fun h => absurd ht h⟩
  case edit =>
    intro p q hq hp
    refine ⟨hq.law hp.phase, fun h => hq.queue.trans (hp.queue ?_)⟩
    obtain e | e := hq.state
    · exact e ▸ h
    · exact absurd e h
  case ended =>
    exact fun p hb hp => ⟨⟨nofun, nofun, fun _ => hp.phase.busy (by simp [hb])⟩, fun h => hp.queue h⟩
  case down => exact fun p state hp => ⟨⟨hp.phase.idle, hp.phase.beat, hp.phase.busy⟩, fun _ => rfl⟩

/-! ### The waiting lists -/

theorem MasterPort.accept_waitingFor (p : MasterPort) (r : Request) (t : Target) :
    (p.accept r).waitingFor t = p.waitingFor t := by
  unfold MasterPort.accept
  dsimp only
  split <;> rfl

theorem MasterPort.returnHead_waitingFor (p : MasterPort) (t : Target) :
    p.returnHead.waitingFor t = p.waitingFor t := by
  unfold MasterPort.returnHead
  split <;> rfl

theorem foldl_setPort_port {f : MasterPort → MasterPort} {l : List Master} (hl : l.Nodup) (s : State) (m : Master) :
    (l.foldl (fun s n => s.setPort n (f (s.port n))) s).port m = if m ∈ l then f (s.port m) else s.port m := by
  induction l generalizing s with
  | nil => rfl
  | cons n l ih =>
    obtain ⟨hn, hl⟩ := List.nodup_cons.1 hl
    rw [List.foldl_cons, ih hl, State.port_setPort]
    by_cases e : m = n
    · subst e; simp [hn]
    · simp [e]

theorem unlisted_port (s : State) (t : Target) (m : Master) : (s.unlisted t).port m = (s.port m).setWaiting t [] := by
  have all := foldl_setPort_port (f := fun p => p.setWaiting t []) (List.nodup_finRange 6)
    (s.setTarget t { s.target t with queue := [] }) m
  rw [if_pos (List.mem_finRange m)] at all
  exact all

theorem foldl_endFaulted_waitingFor (k : FaultKind) (l : List Resolved) (s : State) (m : Master) (t : Target) :
    ((l.foldl (fun s a => endFaulted k a s) s).port m).waitingFor t = (s.port m).waitingFor t :=
  List.foldlRecOn (motive := fun u : State => (u.port m).waitingFor t = (s.port m).waitingFor t) l _ rfl
    fun _ h a _ => by rw [endFaulted, answer_waitingFor, countOut_port]; exact h

theorem answerDown_waitingFor (s : State) (t g : Target) (m : Master) :
    ((answerDown t s).port m).waitingFor g = if g = t then [] else (s.port m).waitingFor g := by
  rw [answerDown_eq, foldl_endFaulted_waitingFor, unlisted_port, MasterPort.waitingFor_setWaiting]

/-- A port replaced by one with the same waiting lists. -/
theorem State.setPort_waitingFor {m : Master} {p : MasterPort} {g : Target}
    (h : p.waitingFor g = (s.port m).waitingFor g) (n : Master) :
    ((s.setPort m p).port n).waitingFor g = (s.port n).waitingFor g := by
  rw [State.port_setPort]
  split
  case isTrue e => rw [e]; exact h
  case isFalse => rfl

/-- No port move enters an access into a waiting list of a target that is not ONLINE. -/
theorem PortMove.waiting (h : PortMove s u)
    (hs : ∀ t, (s.target t).state ≠ .online → ∀ m, (s.port m).waitingFor t = []) (g : Target)
    (hg : (u.target g).state ≠ .online) (n : Master) : (u.port n).waitingFor g = [] := by
  have replaced {m : Master} {p : MasterPort} (h : p.waitingFor g = (s.port m).waitingFor g)
      (hg : (s.target g).state ≠ .online) : ((s.setPort m p).port n).waitingFor g = [] :=
    (State.setPort_waitingFor h n).trans (hs g hg n)
  cases h with
  | accepted m r => exact replaced (MasterPort.accept_waitingFor ..) hg
  | returned m => exact replaced (MasterPort.returnHead_waitingFor ..) hg
  | asserted m => exact replaced rfl hg
  | deasserted m => exact replaced rfl hg
  | refused m r =>
    rw [answer_target, State.target_setPort] at hg
    rw [answer_waitingFor]
    exact replaced rfl hg
  | served m r =>
    rw [answer_target, popAperture, State.target_setPort] at hg
    rw [answer_waitingFor]
    exact replaced rfl hg
  | hit m r rest k f i _ _ ht =>
    have other : g ≠ (s.window i).target := by rintro rfl; exact hg ht
    rw [hitAccess, State.setPort_waitingFor]
    · rw [State.port_setWindow]
      exact replaced rfl hg
    · rw [MasterPort.waitingFor_setWaiting]
      exact if_neg other
  | admitted t m a rest ht =>
    have other : g ≠ t := by
      rintro rfl
      exact hg (by simpa using ht)
    rw [State.target_setTarget, if_neg other] at hg
    rw [State.port_setTarget, State.setPort_waitingFor]
    · exact hs g hg n
    · rw [MasterPort.waitingFor_setWaiting, if_neg other]
  | started t a rest _ ht =>
    refine hs g (fun online => hg ?_) n
    rw [State.target_setTarget]
    split
    case isTrue => exact ht
    case isFalse => exact online
  | target t p h =>
    refine hs g (fun online => hg ?_) n
    rw [State.target_setTarget]
    split
    case isTrue e => exact h.state.elim (fun kept => kept.trans (e ▸ online)) id
    case isFalse => exact online
  | ended t r =>
    rw [answer_waitingFor, countOut_port]
    refine hs g (fun online => hg ?_) n
    rw [answer_target, countOut_target, State.target_setTarget]
    split
    case isTrue e => exact e ▸ online
    case isFalse => exact online
  | down t state =>
    rw [answerDown_waitingFor]
    split
    case isTrue => rfl
    case isFalse e =>
      rw [answerDown_target, if_neg e, State.target_setTarget, if_neg e] at hg
      exact hs g hg n

/-! ### The law across every change -/

theorem targetPortLaw_iff :
    TargetPortLaw s ↔ (∀ t, (s.target t).Lawful) ∧
      ∀ t, (s.target t).state ≠ .online → ∀ m, (s.port m).waitingFor t = [] := by
  constructor
  · intro h
    refine ⟨fun t => ?_, fun t ht => ((h t).1 ht).2⟩
    obtain ⟨lists, idle, beat, busy⟩ := h t
    exact ⟨⟨idle, beat, busy⟩, fun ht => (lists ht).1⟩
  · intro ⟨lawful, waiting⟩ t
    obtain ⟨⟨idle, beat, busy⟩, queue⟩ := lawful t
    exact ⟨fun ht => ⟨queue ht, waiting t ht⟩, idle, beat, busy⟩

theorem targetPortLaw_of_eq (hs : TargetPortLaw s)
    (hw : ∀ m t, (u.port m).waitingFor t = (s.port m).waitingFor t) (ht : ∀ t, u.target t = s.target t) :
    TargetPortLaw u := by
  rw [targetPortLaw_iff] at hs ⊢
  exact ⟨fun t => ht t ▸ hs.1 t, fun t h m => (hw m t).trans (hs.2 t (ht t ▸ h) m)⟩

theorem PortMove.targetPortLaw (h : PortMove s u) (hs : TargetPortLaw s) : TargetPortLaw u := by
  rw [targetPortLaw_iff] at hs ⊢
  exact ⟨h.target_lawful hs.1, h.waiting hs.2⟩

theorem TableMove.targetPortLaw (h : TableMove s u) (hs : TargetPortLaw s) : TargetPortLaw u :=
  targetPortLaw_of_eq hs (fun m t => by rw [h.port]) h.target

theorem Moves.targetPortLaw (h : Moves s u) (hs : TargetPortLaw s) : TargetPortLaw u :=
  h.keeps (fun _ _ h => h.targetPortLaw) (fun _ _ h => h.targetPortLaw) hs

theorem targetPortLaw_finish (x : Execution) {c : Completion} (hc : TargetPortLaw c.state) :
    TargetPortLaw (finish x c) :=
  targetPortLaw_of_eq hc (by simp) (by simp)

/-- SET_TARGET leaves the port of the target but for its settings (R61). -/
theorem targetPortLaw_settings (hs : TargetPortLaw s) (t : Target) (c : TargetSettings) :
    TargetPortLaw (s.setTarget t { s.target t with settings := c }) := by
  rw [targetPortLaw_iff] at hs ⊢
  obtain ⟨lawful, waiting⟩ := hs
  refine ⟨State.setTarget_target_keeps lawful ⟨⟨?_, ?_, ?_⟩, (lawful t).queue⟩, fun g hg => waiting g fun h => hg ?_⟩
  · exact (lawful t).phase.idle
  · exact (lawful t).phase.beat
  · exact (lawful t).phase.busy
  · rw [State.target_setTarget]
    split
    case isTrue e => exact e ▸ h
    case isFalse => exact h

theorem Row.targetPortLaw (h : Row s u) (hs : TargetPortLaw s) : TargetPortLaw u := by
  cases h with
  | moves h => exact h.targetPortLaw hs
  | completion x c _ h => exact targetPortLaw_finish x (h.targetPortLaw hs)
  | slot x c id i v _ _ _ h => exact targetPortLaw_finish x (h.targetPortLaw hs)
  | resized x c p _ _ h => exact targetPortLaw_finish x (h ▸ targetPortLaw_settings hs _ _)
  | detached x c n _ _ _ h =>
    refine targetPortLaw_finish x ?_
    rw [h, detachEffect_eq]
    have tables : TargetPortLaw (detachTables n s) := (detachTables_moves n s).targetPortLaw hs
    exact targetPortLaw_of_eq tables (by simp) (by simp)
  | granted => exact hs
  | written m b _ h => exact h.targetPortLaw hs
  | masterReset n h =>
    refine h.targetPortLaw (targetPortLaw_of_eq hs (fun m t => ?_) fun t => by rw [resetMailboxOf_target]; rfl)
    rw [resetMailboxOf_port]
    exact State.setPort_waitingFor (p := (s.port n).assertReset) rfl m

theorem assertDeviceReset_port (s : State) (m : Master) :
    (assertDeviceReset s).port m = resetPort (s.port m).lineAsserted := by
  simp [assertDeviceReset, State.port]

theorem resetPort_waitingFor (line : Bool) (t : Target) : (resetPort line).waitingFor t = [] := by
  simp [resetPort, MasterPort.waitingFor]

theorem assertDeviceReset_targetPortLaw (s : State) : TargetPortLaw (assertDeviceReset s) := by
  rw [targetPortLaw_iff]
  refine ⟨fun t => ?_, fun t _ m => by rw [assertDeviceReset_port, resetPort_waitingFor]⟩
  rw [assertDeviceReset_target]
  exact ⟨⟨fun _ => ⟨rfl, rfl⟩, nofun, fun h => absurd rfl h⟩, fun _ => rfl⟩

/-- Settles O53: every change keeps the law of the target ports. -/
theorem targetPortsKeepTheirLaw : Obligations.TargetPortsKeepTheirLaw := fun _ _ hs h =>
  keeps_of_row assertDeviceReset_targetPortLaw (fun _ _ h => h.targetPortLaw) (fun _ _ h => h) h hs

end

end Sys2Proof.Machine
end

section
/-! The accesses resolved and not ended at their target, as a multiset (R14, R25): what each change makes of it. -/

namespace Sys2Proof.Machine

open Sys2Proof.Safety

/-! ### The multiset -/

/-- The accesses waiting in a master port. -/
def MasterPort.pending (p : MasterPort) : Multiset Resolved := ∑ t : Target, (p.waitingFor t : Multiset Resolved)

/-- The accesses queued and in progress at a target port. -/
def TargetPort.held (p : TargetPort) : Multiset Resolved :=
  (p.queue : Multiset Resolved) + ((p.running.map Running.access).toList : Multiset Resolved)

/-- The accesses resolved and not yet ended at their target: waiting in the ports, queued and in progress. -/
def State.resolved (s : State) : Multiset Resolved := ∑ m : Master, (s.port m).pending + ∑ t : Target, (s.target t).held

/-- One summand replaced. -/
theorem sum_replace {ι M : Type} [Fintype ι] [DecidableEq ι] [AddCommMonoid M] (f : ι → M) (k : ι) (x : M) :
    ∑ i, (if i = k then x else f i) + f k = ∑ i, f i + x := by
  rw [← Finset.add_sum_erase _ _ (Finset.mem_univ k), ← Finset.add_sum_erase _ f (Finset.mem_univ k), if_pos rfl,
    Finset.sum_congr rfl fun i hi => if_neg (Finset.ne_of_mem_erase hi)]
  abel

theorem MasterPort.pending_setWaiting (p : MasterPort) (t : Target) (l : List Resolved) :
    (p.setWaiting t l).pending + (p.waitingFor t : Multiset Resolved) = p.pending + (l : Multiset Resolved) := by
  rw [MasterPort.pending, MasterPort.pending, ← sum_replace (fun t => (p.waitingFor t : Multiset Resolved)) t l]
  congr 1
  refine Finset.sum_congr rfl fun g _ => ?_
  rw [MasterPort.waitingFor_setWaiting]
  split <;> rfl

theorem MasterPort.pending_of_eq {p q : MasterPort} (h : ∀ t, q.waitingFor t = p.waitingFor t) :
    q.pending = p.pending := Finset.sum_congr rfl fun t _ => by rw [h]

section
variable {s u : State}

theorem State.resolved_setPort (s : State) (m : Master) (p : MasterPort) :
    (s.setPort m p).resolved + (s.port m).pending = s.resolved + p.pending := by
  have ports : ∑ n, ((s.setPort m p).port n).pending + (s.port m).pending = ∑ n, (s.port n).pending + p.pending := by
    rw [← sum_replace (fun n => (s.port n).pending)]
    congr 1
    refine Finset.sum_congr rfl fun n _ => ?_
    rw [State.port_setPort]
    split <;> rfl
  simp only [State.resolved, State.target_setPort]
  rw [add_right_comm, ports, add_right_comm]

theorem State.resolved_setTarget (s : State) (t : Target) (p : TargetPort) :
    (s.setTarget t p).resolved + (s.target t).held = s.resolved + p.held := by
  have targets : ∑ g, ((s.setTarget t p).target g).held + (s.target t).held = ∑ g, (s.target g).held + p.held := by
    rw [← sum_replace (fun g => (s.target g).held)]
    congr 1
    refine Finset.sum_congr rfl fun g _ => ?_
    rw [State.target_setTarget]
    split <;> rfl
  simp only [State.resolved, State.port_setTarget]
  rw [add_assoc, targets, add_assoc]

theorem resolved_of_eq (hp : ∀ m t, (u.port m).waitingFor t = (s.port m).waitingFor t)
    (ht : ∀ t, u.target t = s.target t) : u.resolved = s.resolved := by
  rw [State.resolved, State.resolved, Finset.sum_congr rfl fun m _ => MasterPort.pending_of_eq (hp m),
    Finset.sum_congr rfl fun t _ => congrArg TargetPort.held (ht t)]

theorem State.resolved_setPort_of_waiting {m : Master} {p : MasterPort}
    (h : ∀ t, p.waitingFor t = (s.port m).waitingFor t) : (s.setPort m p).resolved = s.resolved :=
  add_right_cancel ((s.resolved_setPort m p).trans (by rw [MasterPort.pending_of_eq h]))

theorem State.resolved_setTarget_of_held {t : Target} {p : TargetPort} (h : p.held = (s.target t).held) :
    (s.setTarget t p).resolved = s.resolved :=
  add_right_cancel ((s.resolved_setTarget t p).trans (by rw [h]))

theorem answer_resolved (m : Master) (r : Response) (o : Option FaultReport) (s : State) :
    (answer m r o s).resolved = s.resolved :=
  resolved_of_eq (answer_waitingFor m r o s) (answer_target m r o s)

theorem countOut_resolved (i : Slot) (s : State) : (countOut i s).resolved = s.resolved :=
  resolved_of_eq (fun m t => by rw [countOut_port]) (countOut_target i s)

/-! ### The port moves -/

/-- A hit: one access more. -/
theorem hitAccess_resolved (m : Master) (r : Request) (k : AccessKind) (f : Form) (i : Slot) (s : State) :
    (hitAccess m r k f i s).resolved = resolvedOf s m r k f i ::ₘ s.resolved := by
  let t := (resolvedOf s m r k f i).target
  let w := (s.port m).waitingFor t
  have entered := (s.port m).pending_setWaiting t (w ++ [resolvedOf s m r k f i])
  rw [← Multiset.coe_add, add_comm (w : Multiset Resolved), ← add_assoc] at entered
  have counted := State.resolved_setPort (s.setWindow i { s.window i with inFlight := (s.window i).inFlight + 1 }) m
    ((s.port m).setWaiting t (w ++ [resolvedOf s m r k f i]))
  rw [State.port_setWindow, add_right_cancel entered, add_comm (s.port m).pending, ← add_assoc] at counted
  rw [← Multiset.singleton_add, add_comm]
  exact add_right_cancel counted

/-- An access that goes from a waiting list to a queue stays among them. -/
theorem admitted_resolved {t : Target} {m : Master} {a : Resolved} {rest : List Resolved} {p : Master}
    (h : (s.port m).waitingFor t = a :: rest) :
    ((s.setPort m ((s.port m).setWaiting t rest)).setTarget t
      { s.target t with queue := (s.target t).queue ++ [a], pointer := p }).resolved = s.resolved := by
  have left := (s.port m).pending_setWaiting t rest
  have port := s.resolved_setPort m ((s.port m).setWaiting t rest)
  have target := State.resolved_setTarget (s.setPort m ((s.port m).setWaiting t rest)) t
    { s.target t with queue := (s.target t).queue ++ [a], pointer := p }
  rw [h, ← Multiset.cons_coe, ← Multiset.singleton_add] at left
  simp only [TargetPort.held, State.target_setPort, ← Multiset.coe_add] at target
  dsimp only
  refine Multiset.ext.2 fun b => ?_
  replace left := congrArg (Multiset.count b) left
  replace port := congrArg (Multiset.count b) port
  replace target := congrArg (Multiset.count b) target
  simp only [Multiset.count_add, Multiset.coe_singleton] at left port target
  omega

/-- The head of a queue that starts stays among them, where no access was in progress. -/
theorem started_resolved {t : Target} {a : Resolved} {rest : List Resolved} {c : Option Captured}
    (h : (s.target t).queue = a :: rest) (idle : (s.target t).running = none) :
    (s.setTarget t
      { (s.target t).beginBeat with
        queue := rest, running := some { access := a, beat := 0, bytes := [] }, captured := c }).resolved =
      s.resolved := by
  refine State.resolved_setTarget_of_held ?_
  simp only [TargetPort.held, h, idle, Option.map_some, Option.map_none, Option.toList_some, Option.toList_none,
    Multiset.coe_nil, add_zero, ← Multiset.cons_coe, ← Multiset.singleton_add]
  exact add_comm _ _

theorem TargetPort.Edit.held {p q : TargetPort} (h : p.Edit q) : q.held = p.held := by
  rw [TargetPort.held, h.queue, h.access, TargetPort.held]

/-- The access in progress that ends is one less. -/
theorem ended_resolved {t : Target} {r : Running} (h : (s.target t).running = some r) :
    s.resolved = r.access ::ₘ (s.setTarget t { (s.target t).beginRecovery with running := none }).resolved := by
  have target := s.resolved_setTarget t { (s.target t).beginRecovery with running := none }
  simp only [TargetPort.held, h, TargetPort.beginRecovery, Option.map_some, Option.map_none, Option.toList_some,
    Option.toList_none, Multiset.coe_nil, add_zero, Multiset.coe_singleton] at target
  rw [← Multiset.singleton_add]
  refine add_right_cancel (b := ((s.target t).queue : Multiset Resolved)) ?_
  rw [← target]
  simp only [TargetPort.beginRecovery]
  abel

theorem coe_waitingAt (s : State) (t : Target) :
    (s.waitingAt t : Multiset Resolved) = ∑ m, ((s.port m).waitingFor t : Multiset Resolved) := by
  rw [Fin.sum_univ_def, State.waitingAt, allMasters]
  induction List.finRange 6 with
  | nil => rfl
  | cons m l ih => rw [List.flatMap_cons, ← Multiset.coe_add, ih, List.map_cons, List.sum_cons]

/-- The accesses taken from the lists of a target that leaves service. -/
theorem unlisted_resolved (s : State) (t : Target) :
    s.resolved = ((s.target t).queue ++ s.waitingAt t : List Resolved) + (s.unlisted t).resolved := by
  have ports : ∑ m, ((s.unlisted t).port m).pending + (s.waitingAt t : Multiset Resolved) = ∑ m, (s.port m).pending := by
    rw [coe_waitingAt, ← Finset.sum_add_distrib]
    refine Finset.sum_congr rfl fun m _ => ?_
    rw [unlisted_port, MasterPort.pending_setWaiting, Multiset.coe_nil, add_zero]
  have targets : ∑ g, ((s.unlisted t).target g).held + (s.target t).held =
      ∑ g, (s.target g).held + { s.target t with queue := [] : TargetPort }.held := by
    rw [← sum_replace (fun g => (s.target g).held)]
    congr 1
    refine Finset.sum_congr rfl fun g _ => ?_
    rw [unlisted_target]
    split <;> rfl
  rw [State.resolved, State.resolved, ← ports, ← Multiset.coe_add]
  simp only [TargetPort.held, Multiset.coe_nil, zero_add] at targets ⊢
  refine Multiset.ext.2 fun b => ?_
  replace targets := congrArg (Multiset.count b) targets
  simp only [Multiset.count_add] at targets ⊢
  omega

end

end Sys2Proof.Machine
end

section
/-! In-flight counts (R14): in every change each count is the number of accesses resolved through its slot, where the
accesses that a change has taken from their lists and not yet answered are among those resolved. -/

namespace Sys2Proof.Machine

open Sys2Proof.Safety

section
variable {s u : State}

/-! ### The counts of a table -/

/-- The law of R14 at one window, with the number of accesses through its slot. -/
structure Window.Counts (w : Window) (n : Nat) : Prop where
  inFlight : w.inFlight = n
  free : w.state = .free → w.inFlight = 0
  draining : w.state = .draining → 1 ≤ w.inFlight

/-- The number of accesses of a multiset that were resolved through a slot. -/
def through (R : Multiset Resolved) (i : Slot) : Nat := R.countP fun a => a.slot = i

/-- Every in-flight count is the number of accesses of a multiset through its slot (R14). -/
def Counted (R : Multiset Resolved) (s : State) : Prop := ∀ i, (s.window i).Counts (through R i)

theorem through_add (R S : Multiset Resolved) (i : Slot) : through (R + S) i = through R i + through S i :=
  Multiset.countP_add _ _ _

theorem through_cons (a : Resolved) (R : Multiset Resolved) (i : Slot) :
    through (a ::ₘ R) i = through R i + if a.slot = i then 1 else 0 := Multiset.countP_cons _ _ _

theorem through_coe (l : List Resolved) (i : Slot) :
    through (l : Multiset Resolved) i = l.countP fun a => a.slot == i := by
  rw [through, Multiset.coe_countP]
  rfl

theorem through_sum {ι : Type} [Fintype ι] (f : ι → Multiset Resolved) (i : Slot) :
    through (∑ k, f k) i = ∑ k, through (f k) i :=
  map_sum (Multiset.countPAddMonoidHom fun a : Resolved => a.slot = i) f _

theorem accessesThrough_eq (s : State) (i : Slot) : accessesThrough s i = through s.resolved i := by
  simp only [accessesThrough, State.resolved, MasterPort.pending, TargetPort.held, through_add, through_sum, through_coe,
    allMasters, allTargets, ← Fin.sum_univ_def]
  congr 1
  refine Finset.sum_congr rfl fun t _ => ?_
  cases (s.target t).running <;> simp

theorem countedAccesses_iff : CountedAccesses s ↔ Counted s.resolved s := by
  simp only [CountedAccesses, accessesThrough_eq]
  constructor
  · intro h i
    obtain ⟨inFlight, free, draining⟩ := h i
    exact ⟨inFlight, free, draining⟩
  · intro h i
    obtain ⟨inFlight, free, draining⟩ := h i
    exact ⟨inFlight, free, draining⟩

theorem counted_of_window {R : Multiset Resolved} (hs : Counted R s) (h : ∀ i, u.window i = s.window i) :
    Counted R u := fun i => by rw [h]; exact hs i

theorem Counted.setWindow {R : Multiset Resolved} (hs : Counted R s) {i : Slot} {v : Window}
    (hv : (s.window i).Counts (through R i) → v.Counts (through R i)) : Counted R (s.setWindow i v) := by
  intro j
  rw [State.window_setWindow]
  split
  case isTrue e => subst e; exact hv (hs j)
  case isFalse => exact hs j

/-! ### The moves -/

/-- A change that leaves the count, to a state that is neither FREE nor DRAINING unless it was before. -/
theorem Window.Counts.of_state {w v : Window} {n : Nat} (h : w.Counts n) (hn : v.inFlight = w.inFlight)
    (hs : v.state = w.state ∨ (v.state ≠ .free ∧ v.state ≠ .draining)) : v.Counts n := by
  obtain e | ⟨free, draining⟩ := hs
  · exact ⟨hn.trans h.inFlight, fun hv => hn.trans (h.free (e ▸ hv)), fun hv => hn ▸ h.draining (e ▸ hv)⟩
  · exact ⟨hn.trans h.inFlight, fun hv => absurd hv free, fun hv => absurd hv draining⟩

theorem Window.Edit.counts {grace n : Nat} {w v : Window} (h : w.Edit grace v) (hw : w.Counts n) : v.Counts n := by
  cases h with
  | withdraw => exact hw.of_state rfl (.inl rfl)
  | decline => exact hw.of_state rfl (.inr (by simp))
  | activate => exact hw.of_state rfl (.inr (by simp))
  | lapse => exact hw.of_state rfl (.inr (by simp))
  | lease => exact hw.of_state rfl (.inl rfl)
  | warn => exact hw.of_state rfl (.inl rfl)
  | grace => exact hw.of_state rfl (.inl rfl)
  | ticks => exact hw.of_state rfl (.inl rfl)
  | renew =>
    refine hw.of_state rfl ?_
    by_cases e : w.state = .lapsed
    · exact .inr (by simp [e])
    · exact .inl (by simp [e])
  | unwind => exact hw.of_state rfl (.inl rfl)
  | drain _ _ hf => exact ⟨hw.inFlight, nofun, fun _ => Nat.one_le_iff_ne_zero.2 hf⟩
  | free hf => exact ⟨hf.symm.trans hw.inFlight, fun _ => rfl, nofun⟩

theorem TableMove.counted {R : Multiset Resolved} (h : TableMove s u) (hs : Counted R s) : Counted R u := by
  cases h with
  | window i v h => exact hs.setWindow h.counts
  | record => exact hs
  | settings => exact hs
  | timer => exact hs
  | pointer => exact hs
  | drst => exact hs

theorem TableMove.resolved (h : TableMove s u) : u.resolved = s.resolved :=
  resolved_of_eq (fun m _ => by rw [h.port]) h.target

/-- An access that is counted out is no longer among those counted. -/
theorem countOut_counted {a : Resolved} {R : Multiset Resolved} (hs : Counted (a ::ₘ R) s) :
    Counted R (countOut a.slot s) := by
  intro j
  have before := hs j
  rw [through_cons] at before
  rw [countOut_window]
  split
  case isTrue e =>
    rw [if_pos e.symm] at before
    rw [e] at before ⊢
    have count := before.inFlight
    split
    case isTrue last =>
      simp only [Bool.and_eq_true, beq_iff_eq] at last
      exact ⟨show 0 = _ by omega, fun _ => rfl, nofun⟩
    case isFalse last =>
      simp only [Bool.and_eq_true, beq_iff_eq, not_and] at last
      exact ⟨show (s.window a.slot).inFlight - 1 = _ by omega, fun free => absurd (before.free free) (by omega),
        fun draining => Nat.one_le_iff_ne_zero.2 (last draining)⟩
  case isFalse e =>
    rw [if_neg (Ne.symm e), add_zero] at before
    exact before

theorem endFaulted_counted {k : FaultKind} {a : Resolved} {R : Multiset Resolved} (hs : Counted (a ::ₘ R) s) :
    Counted R (endFaulted k a s) := counted_of_window (countOut_counted hs) (answer_window _ _ _ _)

theorem endFaulted_resolved (k : FaultKind) (a : Resolved) (s : State) : (endFaulted k a s).resolved = s.resolved := by
  rw [endFaulted, answer_resolved, countOut_resolved]

theorem foldl_endFaulted_resolved (k : FaultKind) (l : List Resolved) (s : State) :
    (l.foldl (fun s a => endFaulted k a s) s).resolved = s.resolved :=
  List.foldlRecOn (motive := fun u : State => u.resolved = s.resolved) l _ rfl
    fun _ h a _ => (endFaulted_resolved k a _).trans h

theorem foldl_endFaulted_counted {k : FaultKind} {l : List Resolved} {R : Multiset Resolved}
    (hs : Counted (l + R) s) : Counted R (l.foldl (fun s a => endFaulted k a s) s) := by
  induction l generalizing s with
  | nil => simpa using hs
  | cons a l ih =>
    rw [← Multiset.cons_coe, Multiset.cons_add] at hs
    exact ih (endFaulted_counted hs)

theorem unlisted_window (s : State) (t : Target) (i : Slot) : (s.unlisted t).window i = s.window i :=
  List.foldlRecOn (motive := fun u : State => u.window i = s.window i) allMasters _ rfl fun _ h _ _ => h

/-- Every port move keeps the counts of the accesses resolved, where no access is in progress at an IDLE port. -/
theorem PortMove.counted (h : PortMove s u) (law : TargetPortLaw s) (hs : Counted s.resolved s) :
    Counted u.resolved u := by
  have same {u : State} (hr : u.resolved = s.resolved) (hw : ∀ i, u.window i = s.window i) : Counted u.resolved u :=
    hr ▸ counted_of_window hs hw
  cases h with
  | accepted m r => exact same (State.resolved_setPort_of_waiting (MasterPort.accept_waitingFor _ r)) fun _ => rfl
  | returned m => exact same (State.resolved_setPort_of_waiting (MasterPort.returnHead_waitingFor _)) fun _ => rfl
  | asserted m => exact same (State.resolved_setPort_of_waiting fun _ => rfl) fun _ => rfl
  | deasserted m => exact same (State.resolved_setPort_of_waiting fun _ => rfl) fun _ => rfl
  | refused m r =>
    exact same ((answer_resolved ..).trans (State.resolved_setPort_of_waiting fun _ => rfl)) (answer_window _ _ _ _)
  | served m r =>
    exact same ((answer_resolved ..).trans (State.resolved_setPort_of_waiting fun _ => rfl)) (answer_window _ _ _ _)
  | hit m r rest k f i _ hw =>
    have popped : (s.setPort m { s.port m with unresolved := rest }).resolved = s.resolved :=
      State.resolved_setPort_of_waiting fun _ => rfl
    rw [hitAccess_resolved, popped]
    intro j
    have before := hs j
    have rewritten : (hitAccess m r k f i (s.setPort m { s.port m with unresolved := rest })).window j =
        (s.setWindow i { s.window i with inFlight := (s.window i).inFlight + 1 }).window j := rfl
    rw [rewritten, through_cons, State.window_setWindow]
    by_cases e : j = i
    · subst e
      rw [if_pos rfl, if_pos (show (resolvedOf _ m r k f j).slot = j from rfl)]
      exact ⟨congrArg (· + 1) before.inFlight, fun free => absurd free hw.1, fun draining => absurd draining hw.2⟩
    · rw [if_neg e, show (resolvedOf _ m r k f i).slot = i from rfl, if_neg (Ne.symm e), add_zero]
      exact before
  | admitted t m a rest _ _ h => exact same (admitted_resolved h) fun _ => rfl
  | started t a rest hp _ h =>
    exact same (started_resolved h ((targetPortLaw_iff.1 law).1 t |>.phase.idle hp).1) fun _ => rfl
  | target t p h => exact same (State.resolved_setTarget_of_held h.held) fun _ => rfl
  | ended t r code data report _ h =>
    rw [answer_resolved, countOut_resolved]
    refine counted_of_window (countOut_counted ?_) (answer_window _ _ _ _)
    rw [← ended_resolved h]
    exact hs
  | down t state =>
    rw [answerDown_eq, foldl_endFaulted_resolved]
    have taken : (s.setTarget t { s.target t with state := state }).resolved = s.resolved :=
      State.resolved_setTarget_of_held rfl
    rw [unlisted_resolved] at taken
    refine foldl_endFaulted_counted ?_
    rw [taken]
    exact counted_of_window hs (unlisted_window _ t)

/-! ### Every change -/

/-- The laws that every change keeps together: that of the target ports and that of the counts. -/
def CountsLaw (s : State) : Prop := TargetPortLaw s ∧ Counted s.resolved s

theorem Moves.countsLaw (h : Moves s u) (hs : CountsLaw s) : CountsLaw u :=
  h.keeps (fun _ _ h hs => ⟨h.targetPortLaw hs.1, h.resolved ▸ h.counted hs.2⟩)
    (fun _ _ h hs => ⟨h.targetPortLaw hs.1, h.counted hs.1 hs.2⟩) hs

theorem counted_of_eq (hs : Counted s.resolved s) (hw : ∀ i, u.window i = s.window i)
    (hp : ∀ m t, (u.port m).waitingFor t = (s.port m).waitingFor t)
    (ht : ∀ t, u.target t = s.target t) : Counted u.resolved u := by
  rw [resolved_of_eq hp ht]
  exact counted_of_window hs hw

theorem counted_finish (x : Execution) {c : Completion} (hc : Counted c.state.resolved c.state) :
    Counted (finish x c).resolved (finish x c) := counted_of_eq hc (by simp) (by simp) (by simp)

/-- A command that writes a window leaves its count; a claim finds it 0 in a FREE slot. -/
theorem SlotCommand.counts {m : Master} {id : CmdId} {i : Slot} {v : Window} (h : SlotCommand s m id i v) {n : Nat}
    (hs : (s.window i).Counts n) : v.Counts n := by
  cases h with
  | claim p i free => exact ⟨(hs.free free).symm.trans hs.inFlight, nofun, nofun⟩
  | claimCommon p i free => exact ⟨(hs.free free).symm.trans hs.inFlight, nofun, nofun⟩
  | extend => exact hs.of_state rfl (.inl rfl)
  | setMembers => exact hs.of_state rfl (.inl rfl)
  | offer => exact hs.of_state rfl (.inr (by simp))
  | accept => exact hs.of_state rfl (.inr (by simp [acceptedWindow]))

theorem Row.counted (h : Row s u) (law : TargetPortLaw s) (hs : Counted s.resolved s) : Counted u.resolved u := by
  cases h with
  | moves h => exact (h.countsLaw ⟨law, hs⟩).2
  | completion x c _ h => exact counted_finish x (h.countsLaw ⟨law, hs⟩).2
  | slot x c id i v _ hv _ h => exact counted_finish x (h.countsLaw ⟨law, hs.setWindow hv.counts⟩).2
  | resized x c p _ _ h =>
    have settings : c.state.resolved = s.resolved := by
      rw [h]
      exact State.resolved_setTarget_of_held rfl
    refine counted_finish x (settings ▸ counted_of_window hs fun i => ?_)
    rw [h]
    rfl
  | detached x c n _ _ _ h =>
    refine counted_finish x ?_
    rw [h, detachEffect_eq]
    have tables := (detachTables_moves n s).countsLaw (s := madeOffline n s) ⟨law, hs⟩
    exact counted_of_eq tables.2 (by simp) (by simp) (by simp)
  | granted => exact hs
  | written m b _ h => exact (h.countsLaw (s := s.setMailbox m b) ⟨law, hs⟩).2
  | masterReset n h =>
    have waiting (m : Master) (t : Target) :
        ((resetMailboxOf n (s.setPort n (s.port n).assertReset)).port m).waitingFor t = (s.port m).waitingFor t := by
      rw [resetMailboxOf_port]
      exact State.setPort_waitingFor (p := (s.port n).assertReset) rfl m
    have targets (t : Target) :
        (resetMailboxOf n (s.setPort n (s.port n).assertReset)).target t = s.target t := resetMailboxOf_target ..
    exact (h.countsLaw ⟨targetPortLaw_of_eq law waiting targets,
      counted_of_eq hs (resetMailboxOf_window n _) waiting targets⟩).2

theorem assertDeviceReset_resolved (s : State) : (assertDeviceReset s).resolved = 0 := by
  simp [State.resolved, MasterPort.pending, TargetPort.held, assertDeviceReset_port, assertDeviceReset_target,
    resetPort_waitingFor, resetTarget]

theorem assertDeviceReset_counted (s : State) : CountedAccesses (assertDeviceReset s) := by
  rw [countedAccesses_iff, assertDeviceReset_resolved]
  intro i
  rw [assertDeviceReset_window]
  split
  · exact ⟨rfl, nofun, nofun⟩
  · exact ⟨rfl, fun _ => rfl, nofun⟩

/-- Settles O51: every change keeps the counts, where the law of the target ports holds before it. -/
theorem inFlightCountsKeptByEveryStep : Obligations.InFlightCountsKeptByEveryStep := by
  intro s u law hs h
  obtain ⟨-, q, rfl⟩ | ⟨q, row⟩ := step_row h
  · exact assertDeviceReset_counted _
  · exact countedAccesses_iff.2 (row.counted (s := { s with pending := q }) law (countedAccesses_iff.1 hs))

end

end Sys2Proof.Machine
end

section
/-! Tags (R25): in every change each tag in use has one outstanding access in one place, where a place is a list of the
port, a target, or the hand of the change, which holds what has been taken and not yet answered. -/

namespace Sys2Proof.Machine

open Sys2Proof.Safety

section
variable {s u : State}

/-! ### The places of a tag -/

/-- The master and the tag of an access. -/
def Resolved.owner (a : Resolved) : Master × Tag := (a.master, a.tag)

/-- The number of places of a tag in the unresolved, aperture and response lists of its port. -/
def MasterPort.listed (p : MasterPort) (t : Tag) : Nat :=
  p.unresolved.countP (fun r => r.tag == t) + p.aperture.countP (fun r => r.tag == t) +
    p.responses.countP (fun r => r.tag == t)

/-- A tag in use stands in one place and a free one in none, `K` being the masters and tags of the accesses that stand in
no list of a port (R25). -/
structure TagsHeld (K : Multiset (Master × Tag)) (s : State) : Prop where
  count : ∀ m t, (s.port m).listed t + K.count (m, t) = if (s.port m).tagFree t then 0 else 1
  owner : ∀ m g, ∀ a ∈ (s.port m).waitingFor g, a.master = m

theorem count_owner (R : Multiset Resolved) (m : Master) (t : Tag) :
    (R.map Resolved.owner).count (m, t) = R.countP fun a => a.master = m ∧ a.tag = t := by
  rw [Multiset.count, Multiset.countP_map, ← Multiset.countP_eq_card_filter]
  refine Multiset.countP_congr rfl fun a _ => ?_
  simp [Resolved.owner, eq_comm]

theorem countP_sum {α ι : Type} [Fintype ι] (p : α → Prop) [DecidablePred p] (f : ι → Multiset α) :
    (∑ k, f k).countP p = ∑ k, (f k).countP p := map_sum (Multiset.countPAddMonoidHom p) f _

/-- The places of a tag are those in the lists of its port and those among the accesses resolved. -/
theorem standings_eq (owner : ∀ m g, ∀ a ∈ (s.port m).waitingFor g, a.master = m) (m : Master) (t : Tag) :
    standings s m t = (s.port m).listed t + (s.resolved.map Resolved.owner).count (m, t) := by
  have waiting : (∑ n, (s.port n).pending).countP (fun a => a.master = m ∧ a.tag = t) =
      ∑ g, ((s.port m).waitingFor g).countP fun a => a.tag == t := by
    rw [countP_sum, Finset.sum_eq_single m]
    · rw [MasterPort.pending, countP_sum]
      refine Finset.sum_congr rfl fun g _ => ?_
      rw [Multiset.coe_countP]
      refine List.countP_congr fun a ha => ?_
      simp [owner m g a ha]
    · intro n _ hn
      rw [MasterPort.pending, countP_sum]
      refine Finset.sum_eq_zero fun g _ => Multiset.countP_eq_zero.2 fun a ha h => hn ?_
      exact (owner n g a (Multiset.mem_coe.1 ha)).symm.trans h.1
    · simp
  have targets : (∑ g, (s.target g).held).countP (fun a => a.master = m ∧ a.tag = t) =
      ∑ g, ((s.target g).queue.countP (fun a => a.master == m && a.tag == t) +
        (s.target g).running.toList.countP fun r => r.access.master == m && r.access.tag == t) := by
    rw [countP_sum]
    refine Finset.sum_congr rfl fun g _ => ?_
    rw [TargetPort.held, Multiset.countP_add, Multiset.coe_countP, Multiset.coe_countP]
    cases (s.target g).running <;> simp <;> rfl
  rw [count_owner, State.resolved, Multiset.countP_add, waiting, targets, standings, MasterPort.listed, allTargets,
    ← Fin.sum_univ_def, ← Fin.sum_univ_def]
  exact add_assoc ..

theorem tagsAccounted_iff : TagsAccounted s ↔ TagsHeld (s.resolved.map Resolved.owner) s := by
  constructor
  · intro ⟨count, owner⟩
    exact ⟨fun m t => (standings_eq owner m t).symm.trans (count m t), owner⟩
  · intro ⟨count, owner⟩
    exact ⟨fun m t => (standings_eq owner m t).trans (count m t), owner⟩

/-! ### Changes of one port -/

theorem tagsHeld_of_port {K : Multiset (Master × Tag)} (hs : TagsHeld K s) (h : ∀ m, u.port m = s.port m) :
    TagsHeld K u := ⟨fun m t => by rw [h]; exact hs.count m t, fun m g => by rw [h]; exact hs.owner m g⟩

/-- A change of one port: its tags have their places, and the hand changes for no other port. -/
theorem TagsHeld.setPort {K L : Multiset (Master × Tag)} (hs : TagsHeld K s) {m : Master} {p : MasterPort}
    (own : ∀ t, p.listed t + L.count (m, t) = if p.tagFree t then 0 else 1)
    (other : ∀ n t, n ≠ m → L.count (n, t) = K.count (n, t))
    (owner : ∀ g, ∀ a ∈ p.waitingFor g, a.master = m) : TagsHeld L (s.setPort m p) := by
  refine ⟨fun n t => ?_, fun n g => ?_⟩ <;> rw [State.port_setPort] <;> split
  case refine_1.isTrue e => subst e; exact own t
  case refine_1.isFalse e => rw [other n t e]; exact hs.count n t
  case refine_2.isTrue e => subst e; exact owner g
  case refine_2.isFalse => exact hs.owner n g

theorem MasterPort.tagFree_setTag (p : MasterPort) (t v : Tag) (x : TagState) :
    (p.setTag t x).tagFree v = if v = t then x == .free else p.tagFree v := by
  simp only [MasterPort.tagFree, MasterPort.tag_setTag]
  split <;> rfl

theorem count_cons_other {K : Multiset (Master × Tag)} {m : Master} (r : Tag) (n : Master) (t : Tag) (h : n ≠ m) :
    ((m, r) ::ₘ K).count (n, t) = K.count (n, t) :=
  Multiset.count_cons_of_ne (fun e => h (congrArg Prod.fst e)) K

theorem count_cons_own {K : Multiset (Master × Tag)} {m : Master} (r t : Tag) :
    ((m, r) ::ₘ K).count (m, t) = K.count (m, t) + if r = t then 1 else 0 := by
  rw [Multiset.count_cons]
  simp [eq_comm]

theorem tagFree_of_mayAccept {m : Master} {t : Tag} (h : s.mayAccept m t = true) : (s.port m).tagFree t = true := by
  simp only [State.mayAccept, Bool.and_eq_true] at h
  exact h.2

/-- An accepted request takes a free tag (R26). -/
theorem TagsHeld.accept {K : Multiset (Master × Tag)} (hs : TagsHeld K s) {m : Master} {r : Request}
    (h : (s.port m).tagFree r.tag = true) : TagsHeld K (s.setPort m ((s.port m).accept r)) := by
  refine hs.setPort (fun t => ?_) (fun _ _ _ => rfl) fun g => ?_
  · have before := hs.count m t
    have listed : ((s.port m).accept r).listed t = (s.port m).listed t + if r.tag = t then 1 else 0 := by
      unfold MasterPort.accept
      dsimp only
      split <;> simp [MasterPort.listed, List.countP_cons] <;> omega
    have free : ((s.port m).accept r).tagFree t = ((s.port m).setTag r.tag (.inUse false)).tagFree t := by
      unfold MasterPort.accept
      dsimp only
      split <;> rfl
    rw [listed, free, MasterPort.tagFree_setTag]
    by_cases e : t = r.tag
    · subst e
      simp only [h, if_true] at before
      simp
      omega
    · rw [if_neg e, if_neg (Ne.symm e)]
      exact before
  · rw [MasterPort.accept_waitingFor]
    exact hs.owner m g

/-- A returned response frees its tag (R40). -/
theorem TagsHeld.returnHead {K : Multiset (Master × Tag)} (hs : TagsHeld K s) (m : Master) :
    TagsHeld K (s.setPort m (s.port m).returnHead) := by
  refine hs.setPort (fun t => ?_) (fun _ _ _ => rfl) fun g => ?_
  · have before := hs.count m t
    unfold MasterPort.returnHead
    split
    case h_1 => exact before
    case h_2 r rest e =>
      have free : ({ (s.port m).setTag r.tag .free with responses := rest, returned := some r } : MasterPort).tagFree t =
          if t = r.tag then true else (s.port m).tagFree t := (s.port m).tagFree_setTag r.tag t .free
      rw [free]
      simp only [MasterPort.listed, e, List.countP_cons, MasterPort.unresolved_setTag, MasterPort.aperture_setTag]
        at before ⊢
      by_cases h : t = r.tag
      · subst h
        cases hf : (s.port m).tagFree r.tag <;>
          simp only [hf, beq_self_eq_true, if_true, Bool.false_eq_true, if_false] at before ⊢ <;>
          omega
      · simpa [h, Ne.symm h] using before
  · rw [MasterPort.returnHead_waitingFor]
    exact hs.owner m g

/-- A master reset discards what the port lists and leaves the tags of the other outstanding accesses in use (R43). -/
theorem TagsHeld.assertReset {K : Multiset (Master × Tag)} (hs : TagsHeld K s) (m : Master) :
    TagsHeld K (s.setPort m (s.port m).assertReset) := by
  refine hs.setPort (fun t => ?_) (fun _ _ _ => rfl) (hs.owner m)
  have before := hs.count m t
  have discarded : (s.port m).discarded t = true ↔ 0 < (s.port m).listed t := by
    simp only [MasterPort.discarded, MasterPort.listed, Bool.or_eq_true, List.any_eq_true, Nat.add_pos_iff_pos_or_pos,
      List.countP_pos_iff]
  have free : (s.port m).assertReset.tagFree t = ((s.port m).tagFree t || (s.port m).discarded t) := by
    simp only [MasterPort.tagFree, MasterPort.assertReset, Fin.getElem_fin, Vector.getElem_ofFn]
    split <;> simp_all
  rw [free, show (s.port m).assertReset.listed t = 0 from rfl]
  cases hf : (s.port m).tagFree t <;> cases hd : (s.port m).discarded t <;>
    simp only [hf, hd, false_iff, true_iff, Bool.false_eq_true, if_true, if_false, Bool.or_self, Bool.or_true,
      Bool.or_false] at before discarded ⊢ <;>
    omega

/-- A response that falls due leaves the hand: it joins the response list, or its tag becomes free (R39, R43). -/
theorem TagsHeld.answer {K : Multiset (Master × Tag)} {m : Master} {r : Response} (o : Option FaultReport)
    (hs : TagsHeld ((m, r.tag) ::ₘ K) s) : TagsHeld K (answer m r o s) := by
  refine ⟨fun n t => ?_, fun n g => by rw [answer_waitingFor]; exact hs.owner n g⟩
  by_cases e : n = m
  · subst e
    have before := hs.count n t
    rw [count_cons_own] at before
    rw [answer_port_self]
    split
    case isTrue dropped =>
      have free (p : MasterPort) (b : Bool) :
          ({ p.setTag r.tag .free with reopenWait := b } : MasterPort).tagFree t =
            if t = r.tag then true else p.tagFree t := p.tagFree_setTag r.tag t .free
      rw [free, show MasterPort.listed { (s.port n).setTag r.tag .free with reopenWait := _ } t = (s.port n).listed t
        from rfl]
      by_cases h : t = r.tag
      · subst h
        rw [if_pos rfl] at before
        simp only [if_true]
        split at before <;> omega
      · rw [if_neg (Ne.symm h)] at before
        rw [if_neg h]
        exact before
    case isFalse =>
      have listed : MasterPort.listed { s.port n with responses := (s.port n).responses ++ [r] } t =
          (s.port n).listed t + if r.tag = t then 1 else 0 := by
        simp [MasterPort.listed, List.countP_cons]
        omega
      have free : MasterPort.tagFree { s.port n with responses := (s.port n).responses ++ [r] } t =
          (s.port n).tagFree t := rfl
      rw [listed, free]
      omega
  · rw [answer_port_of_ne m r o s e, ← count_cons_other r.tag n t e]
    exact hs.count n t

/-- A request taken from a list of the port is in the hand. -/
theorem TagsHeld.pop {K : Multiset (Master × Tag)} (hs : TagsHeld K s) {m : Master} {p : MasterPort} {r : Tag}
    (listed : ∀ t, (s.port m).listed t = p.listed t + if r = t then 1 else 0) (tags : p.tags = (s.port m).tags)
    (waiting : p.waiting = (s.port m).waiting) : TagsHeld ((m, r) ::ₘ K) (s.setPort m p) := by
  refine hs.setPort (fun t => ?_) (count_cons_other r) fun g => ?_
  · have before := hs.count m t
    rw [listed] at before
    rw [count_cons_own, MasterPort.tagFree, tags]
    unfold MasterPort.tagFree at before
    omega
  · rw [MasterPort.waitingFor, waiting]
    exact hs.owner m g

theorem listed_unresolved {p : MasterPort} {r : Request} {rest : List Request} (h : p.unresolved = r :: rest) (t : Tag) :
    p.listed t = ({ p with unresolved := rest } : MasterPort).listed t + if r.tag = t then 1 else 0 := by
  simp [MasterPort.listed, h, List.countP_cons]
  omega

theorem listed_aperture {p : MasterPort} {r : Request} {rest : List Request} (h : p.aperture = r :: rest) (t : Tag) :
    p.listed t = ({ p with aperture := rest } : MasterPort).listed t + if r.tag = t then 1 else 0 := by
  simp [MasterPort.listed, h, List.countP_cons]
  omega

/-! ### The moves -/

/-- The masters and tags of the accesses resolved. -/
def State.owners (s : State) : Multiset (Master × Tag) := s.resolved.map Resolved.owner

theorem countOut_tagsHeld {K : Multiset (Master × Tag)} (hs : TagsHeld K s) (i : Slot) : TagsHeld K (countOut i s) :=
  tagsHeld_of_port hs (countOut_port i s)

theorem foldl_endFaulted_tagsHeld {k : FaultKind} {l : List Resolved} {R : Multiset Resolved}
    (hs : TagsHeld ((l + R).map Resolved.owner) s) :
    TagsHeld (R.map Resolved.owner) (l.foldl (fun s a => endFaulted k a s) s) := by
  induction l generalizing s with
  | nil => simpa using hs
  | cons a l ih =>
    rw [← Multiset.cons_coe, Multiset.cons_add, Multiset.map_cons] at hs
    exact ih ((countOut_tagsHeld hs a.slot).answer _)

/-- A change of the waiting lists of a port, the accesses of another place taken in. -/
theorem TagsHeld.setWaiting {K : Multiset (Master × Tag)} (hs : TagsHeld K s) {m : Master} {t : Target}
    {l : List Resolved} (hl : ∀ a ∈ l, a.master = m) : TagsHeld K (s.setPort m ((s.port m).setWaiting t l)) := by
  refine hs.setPort (hs.count m) (fun _ _ _ => rfl) fun g a => ?_
  rw [MasterPort.waitingFor_setWaiting]
  split
  · exact hl a
  · exact hs.owner m g a

theorem tagsHeld_unlisted {K : Multiset (Master × Tag)} (hs : TagsHeld K s) (t : Target) :
    TagsHeld K (s.unlisted t) := by
  refine ⟨fun m v => ?_, fun m g a => ?_⟩
  · rw [unlisted_port]
    exact hs.count m v
  · rw [unlisted_port, MasterPort.waitingFor_setWaiting]
    split
    · simp
    · exact hs.owner m g a

/-- Every port move keeps each tag in one place, where no access is in progress at an IDLE port. -/
theorem PortMove.tagsHeld (h : PortMove s u) (law : TargetPortLaw s) (hs : TagsHeld s.owners s) :
    TagsHeld u.owners u := by
  have same {u : State} (hr : u.resolved = s.resolved) (hu : TagsHeld s.owners u) : TagsHeld u.owners u := by
    rw [State.owners, hr]
    exact hu
  cases h with
  | accepted m r h =>
    exact same (State.resolved_setPort_of_waiting (MasterPort.accept_waitingFor _ r)) (hs.accept (tagFree_of_mayAccept h))
  | returned m => exact same (State.resolved_setPort_of_waiting (MasterPort.returnHead_waitingFor _)) (hs.returnHead m)
  | asserted m => exact same (State.resolved_setPort_of_waiting fun _ => rfl) (hs.assertReset m)
  | deasserted m =>
    exact same (State.resolved_setPort_of_waiting fun _ => rfl) (hs.setPort (hs.count m) (fun _ _ _ => rfl) (hs.owner m))
  | refused m r rest _ _ _ h =>
    exact same ((answer_resolved ..).trans (State.resolved_setPort_of_waiting fun _ => rfl))
      ((hs.pop (listed_unresolved h) rfl rfl).answer _)
  | served m r rest _ _ _ h =>
    exact same ((answer_resolved ..).trans (State.resolved_setPort_of_waiting fun _ => rfl))
      ((hs.pop (listed_aperture h) rfl rfl).answer _)
  | hit m r rest k f i h =>
    have popped : (s.setPort m { s.port m with unresolved := rest }).resolved = s.resolved :=
      State.resolved_setPort_of_waiting fun _ => rfl
    have taken : TagsHeld ((m, r.tag) ::ₘ s.owners) (s.setPort m { s.port m with unresolved := rest }) :=
      hs.pop (listed_unresolved h) rfl rfl
    rw [State.owners, hitAccess_resolved, popped, Multiset.map_cons]
    refine TagsHeld.setWaiting (s := State.setWindow _ i _) (tagsHeld_of_port taken fun _ => rfl) fun a ha => ?_
    obtain ha | ha := List.mem_append.1 ha
    · exact taken.owner m _ a ha
    · rw [List.mem_singleton.1 ha]
      rfl
  | admitted t m a rest _ _ h =>
    refine same (admitted_resolved h) (tagsHeld_of_port (hs.setWaiting (m := m) fun b hb => ?_) fun _ => rfl)
    exact hs.owner m t b (h ▸ List.mem_cons_of_mem a hb)
  | started t a rest hp _ h =>
    exact same (started_resolved h ((targetPortLaw_iff.1 law).1 t |>.phase.idle hp).1) (tagsHeld_of_port hs fun _ => rfl)
  | target t p h => exact same (State.resolved_setTarget_of_held h.held) (tagsHeld_of_port hs fun _ => rfl)
  | ended t r code data report _ h =>
    rw [State.owners, ended_resolved h, Multiset.map_cons] at hs
    rw [State.owners, answer_resolved, countOut_resolved]
    have taken := tagsHeld_of_port (u := s.setTarget t { (s.target t).beginRecovery with running := none }) hs
      fun _ => rfl
    exact (countOut_tagsHeld taken r.access.slot).answer report
  | down t state =>
    have taken : (s.setTarget t { s.target t with state := state }).resolved = s.resolved :=
      State.resolved_setTarget_of_held rfl
    rw [State.owners, answerDown_eq, foldl_endFaulted_resolved]
    have unlisted := tagsHeld_unlisted (tagsHeld_of_port (u := s.setTarget t { s.target t with state := state }) hs
      fun _ => rfl) t
    rw [State.owners, ← taken, unlisted_resolved _ t] at unlisted
    exact foldl_endFaulted_tagsHeld unlisted

/-! ### Every change -/

/-- The laws that every change keeps together: that of the target ports and that of the tags. -/
def TagsLaw (s : State) : Prop := TargetPortLaw s ∧ TagsHeld s.owners s

theorem Moves.tagsLaw (h : Moves s u) (hs : TagsLaw s) : TagsLaw u :=
  h.keeps (fun _ _ h hs => ⟨h.targetPortLaw hs.1, by
      rw [State.owners, h.resolved]
      exact tagsHeld_of_port hs.2 h.port⟩)
    (fun _ _ h hs => ⟨h.targetPortLaw hs.1, h.tagsHeld hs.1 hs.2⟩) hs

theorem tagsLaw_of_eq (hs : TagsLaw s) (hp : ∀ m, u.port m = s.port m) (ht : ∀ t, u.target t = s.target t) :
    TagsLaw u := by
  have waiting (m : Master) (t : Target) : (u.port m).waitingFor t = (s.port m).waitingFor t := by rw [hp]
  refine ⟨targetPortLaw_of_eq hs.1 waiting ht, ?_⟩
  rw [State.owners, resolved_of_eq waiting ht]
  exact tagsHeld_of_port hs.2 hp

theorem tagsLaw_finish (x : Execution) {c : Completion} (hc : TagsLaw c.state) : TagsLaw (finish x c) :=
  tagsLaw_of_eq hc (by simp) (by simp)

theorem Row.tagsLaw (h : Row s u) (hs : TagsLaw s) : TagsLaw u := by
  cases h with
  | moves h => exact h.tagsLaw hs
  | completion x c _ h => exact tagsLaw_finish x (h.tagsLaw hs)
  | slot x c id i v _ _ _ h => exact tagsLaw_finish x (h.tagsLaw (tagsLaw_of_eq hs (fun _ => rfl) fun _ => rfl))
  | resized x c p _ _ h =>
    have resolved : c.state.resolved = s.resolved := by
      rw [h]
      exact State.resolved_setTarget_of_held rfl
    refine tagsLaw_finish x ⟨h ▸ targetPortLaw_settings hs.1 _ _, ?_⟩
    rw [State.owners, resolved]
    exact tagsHeld_of_port hs.2 fun _ => by rw [h]; rfl
  | detached x c n _ _ _ h =>
    refine tagsLaw_finish x ?_
    rw [h, detachEffect_eq]
    have tables := (detachTables_moves n s).tagsLaw (tagsLaw_of_eq hs (fun _ => rfl) fun _ => rfl)
    exact tagsLaw_of_eq tables (by simp) (by simp)
  | granted => exact tagsLaw_of_eq hs (fun _ => rfl) fun _ => rfl
  | written m b _ h => exact h.tagsLaw (tagsLaw_of_eq hs (fun _ => rfl) fun _ => rfl)
  | masterReset n h =>
    have port := (PortMove.asserted (s := s) n).moves.tagsLaw hs
    exact h.tagsLaw (tagsLaw_of_eq port (resetMailboxOf_port n _) (resetMailboxOf_target n _))

theorem assertDeviceReset_tagsAccounted (s : State) : TagsAccounted (assertDeviceReset s) := by
  rw [tagsAccounted_iff, assertDeviceReset_resolved]
  refine ⟨fun m t => ?_, fun m g => ?_⟩ <;> rw [assertDeviceReset_port]
  · simp [MasterPort.listed, resetPort, MasterPort.tagFree]
  · simp [resetPort_waitingFor]

/-- Settles O52: every change keeps each tag in one place, where the law of the target ports holds before it. -/
theorem tagsAccountedForByEveryStep : Obligations.TagsAccountedForByEveryStep := by
  intro s u law hs h
  obtain ⟨-, q, rfl⟩ | ⟨q, row⟩ := step_row h
  · exact assertDeviceReset_tagsAccounted _
  · have held : TagsLaw { s with pending := q } := ⟨law, tagsAccounted_iff.1 hs⟩
    exact tagsAccounted_iff.2 (row.tagsLaw held).2

end

end Sys2Proof.Machine
end

section
/-! Ranges of fields (R2, R4, R46, R48, R105, R120, R133, R143, R154): every change keeps them, and what R14 and R25 say of
the counts and tags bounds the in-flight counts. -/

namespace Sys2Proof.Machine

open Sys2Proof.Safety

section
variable {s u : State}

/-! ### The moves -/

theorem Window.Edit.inRange {grace : Nat} {w v : Window} (h : w.Edit grace v) (hg : grace ≤ 255)
    (hw : WindowInRange w) : WindowInRange v := by
  obtain ⟨period, lease, graceLeft, offer⟩ := hw
  cases h with
  | withdraw => exact ⟨period, lease, graceLeft, nofun⟩
  | decline => exact ⟨period, lease, graceLeft, nofun⟩
  | activate => exact ⟨period, lease, graceLeft, offer⟩
  | lapse => exact ⟨period, Nat.zero_le _, hg, offer⟩
  | lease n hn => exact ⟨period, hn.trans lease, graceLeft, offer⟩
  | warn => exact ⟨period, lease, graceLeft, offer⟩
  | grace n hn => exact ⟨period, lease, hn.trans graceLeft, offer⟩
  | ticks o ho ht =>
    refine ⟨period, lease, graceLeft, fun o' ho' => ?_⟩
    obtain rfl := Option.some.inj ho'
    exact ⟨Nat.one_le_iff_ne_zero.2 ht, (Nat.sub_le _ _).trans (offer o ho).2⟩
  | renew =>
    refine ⟨period, Nat.le_refl _, ?_, offer⟩
    dsimp only
    split
    · exact Nat.zero_le _
    · exact graceLeft
  | unwind => exact ⟨period, Nat.zero_le _, Nat.zero_le _, offer⟩
  | drain => exact ⟨period, lease, graceLeft, offer⟩
  | free => exact ⟨nofun, Nat.zero_le _, Nat.zero_le _, nofun⟩

theorem MasterRecord.Edit.inRange {r r' : MasterRecord} (h : r.Edit r') (hr : MasterInRange r) : MasterInRange r' :=
  ⟨h.quota ▸ hr.1, h.counts hr.2.1, h.order hr.2.2⟩

theorem inRange_setWindow (hs : InRange s) {i : Slot} {v : Window} (hv : WindowInRange v) :
    InRange (s.setWindow i v) := by
  obtain ⟨windows, masters, targets, timer⟩ := hs
  refine ⟨fun j => ?_, masters, targets, timer⟩
  rw [State.window_setWindow]
  split
  case isTrue => exact hv
  case isFalse => exact windows j

theorem inRange_setMaster (hs : InRange s) {m : Master} {r : MasterRecord} (hr : MasterInRange r) :
    InRange (s.setMaster m r) := by
  obtain ⟨windows, masters, targets, timer⟩ := hs
  refine ⟨windows, fun j => ?_, targets, timer⟩
  rw [State.master_setMaster]
  split
  case isTrue => exact hr
  case isFalse => exact masters j

theorem TableMove.inRange (h : TableMove s u) (hs : InRange s) : InRange u := by
  have ⟨windows, masters, targets, clock⟩ := hs
  cases h with
  | window i v h => exact inRange_setWindow hs (h.inRange clock.2.2.1 (windows i))
  | record m r h => exact inRange_setMaster hs (h.inRange (masters m))
  | settings m q f d hq => exact inRange_setMaster hs ⟨hq, (masters m).2⟩
  | timer t h => exact ⟨windows, masters, targets, h clock⟩
  | pointer => exact hs
  | drst => exact hs

theorem PortMove.windowInRange (h : PortMove s u) :
    (∀ i, WindowInRange (s.window i)) → ∀ i, WindowInRange (u.window i) := by
  refine h.rel (R := fun s u => (∀ i, WindowInRange (s.window i)) → ∀ i, WindowInRange (u.window i)) (fun _ => id)
    (fun _ _ _ h h' => h' ∘ h) (fun _ _ _ => id) (fun _ _ _ => id) (fun _ _ _ => id) (fun s i hs j => ?_)
    fun s i hs j => ?_
  · rw [countOut_window]
    split
    case isTrue =>
      split
      · exact ⟨nofun, Nat.zero_le _, Nat.zero_le _, nofun⟩
      · exact hs i
    case isFalse => exact hs j
  · rw [State.window_setWindow]
    split
    case isTrue => exact hs i
    case isFalse => exact hs j

theorem MasterRecord.Edit.refl (r : MasterRecord) : r.Edit r := ⟨rfl, rfl, .inl rfl, id, id⟩

theorem PortMove.masterInRange (h : PortMove s u) :
    (∀ m, MasterInRange (s.master m)) → ∀ m, MasterInRange (u.master m) := by
  refine h.rel (R := fun s u => (∀ m, MasterInRange (s.master m)) → ∀ m, MasterInRange (u.master m)) (fun _ => id)
    (fun _ _ _ h h' => h' ∘ h) (fun _ _ _ => id) (fun _ _ _ => id) (fun s m f hs j => ?_) (fun s i hs j => ?_)
    fun _ _ => id
  · exact (State.setMaster_master_rel MasterRecord.Edit.refl (enterReport_edit m f s) j).inRange (hs j)
  · unfold MasterInRange
    rw [countOut_master_quota, countOut_master_faultRecord, countOut_master_order]
    exact hs j

theorem PortMove.queue_length (h : PortMove s u) (hs : ∀ t, (s.target t).queue.length ≤ 8) (g : Target) :
    (u.target g).queue.length ≤ 8 := by
  refine h.target_keeps (P := fun p => p.queue.length ≤ 8) ?admitted ?started ?edit ?ended ?down hs g
  case admitted => exact fun p a m _ short _ => by simpa using short
  case started => exact fun p a rest _ e long => by rw [e] at long; exact Nat.le_of_succ_le long
  case edit => exact fun p q h hp => h.queue ▸ hp
  case ended => exact fun _ _ hp => hp
  case down => exact fun _ _ _ => Nat.zero_le _

theorem PortMove.inRange (h : PortMove s u) (hs : InRange s) : InRange u := by
  obtain ⟨windows, masters, targets, timer⟩ := hs
  refine ⟨h.windowInRange windows, h.masterInRange masters, fun t => ⟨?_, ?_⟩, ?_⟩
  · rw [h.settings]
    exact (targets t).1
  · exact h.queue_length (fun t => (targets t).2) t
  · rw [h.timer]
    exact timer

theorem Moves.inRange (h : Moves s u) (hs : InRange s) : InRange u :=
  h.keeps (fun _ _ h => h.inRange) (fun _ _ h => h.inRange) hs

/-! ### Every change -/

theorem claimedWindow_inRange (g : Gen) (layer : Layer) (m : Master) (members : Option (BitVec 6)) (p : Params) :
    WindowInRange (claimedWindow g layer m members p) := by
  refine ⟨fun n hn => ?_, ?_, Nat.zero_le _, nofun⟩
  · simp only [claimedWindow, claimPeriod, Option.mem_def] at hn
    split at hn
    · cases hn
    case isFalse lease =>
      obtain rfl := Option.some.inj hn
      exact ⟨Nat.one_le_iff_ne_zero.2 lease, bits_le⟩
  · simp only [claimedWindow, claimPeriod]
    split
    case isTrue lease => exact lease.le
    case isFalse => exact Nat.le_refl _

theorem SlotCommand.inRange {m : Master} {id : CmdId} {i : Slot} {v : Window} (h : SlotCommand s m id i v)
    (hs : WindowInRange (s.window i)) : WindowInRange v := by
  obtain ⟨period, lease, grace, offer⟩ := hs
  cases h with
  | claim => exact claimedWindow_inRange ..
  | claimCommon => exact claimedWindow_inRange ..
  | extend => exact ⟨period, lease, grace, offer⟩
  | setMembers => exact ⟨period, lease, grace, offer⟩
  | offer p pass =>
    simp only [offerChecks, List.forall_mem_cons, offerInRange, Bool.and_eq_true, decide_eq_true_eq] at pass
    refine ⟨period, lease, grace, fun o ho => ?_⟩
    obtain rfl := Option.some.inj ho
    exact ⟨pass.1.2, bits_le⟩
  | accept => exact ⟨period, Nat.le_refl _, grace, nofun⟩

theorem inRange_of_eq (hs : InRange s) (hw : ∀ i, u.window i = s.window i) (hm : ∀ m, u.master m = s.master m)
    (ht : ∀ t, u.target t = s.target t) (htimer : u.timer = s.timer) : InRange u := by
  obtain ⟨windows, masters, targets, timer⟩ := hs
  exact ⟨fun i => hw i ▸ windows i, fun m => hm m ▸ masters m, fun t => ht t ▸ targets t, htimer ▸ timer⟩

theorem inRange_finish (x : Execution) {c : Completion} (hc : InRange c.state) : InRange (finish x c) :=
  inRange_of_eq hc (by simp) (by simp) (by simp) (by simp)

theorem inRange_resized (hs : InRange s) {m : Master} {p : Params} (pass : ∀ c ∈ setTargetChecks m p s, c.1 = true) :
    InRange (s.setTarget (targetParam p.p0)
      { s.target (targetParam p.p0) with
        settings := (settingsParam p).getD (s.target (targetParam p.p0)).settings }) := by
  obtain ⟨windows, masters, targets, timer⟩ := hs
  simp only [setTargetChecks, List.forall_mem_cons] at pass
  obtain ⟨c, param, -, range⟩ := settingsParam_of_inRange pass.2.1
  refine ⟨windows, masters, fun t => ?_, timer⟩
  rw [State.target_setTarget]
  split
  case isTrue => exact ⟨by simpa [param] using range, (targets _).2⟩
  case isFalse => exact targets t

theorem Row.inRange (h : Row s u) (hs : InRange s) : InRange u := by
  cases h with
  | moves h => exact h.inRange hs
  | completion x c _ h => exact inRange_finish x (h.inRange hs)
  | slot x c id i v _ hv _ h => exact inRange_finish x (h.inRange (inRange_setWindow hs (hv.inRange (hs.1 i))))
  | resized x c p _ pass h => exact inRange_finish x (h ▸ inRange_resized hs pass)
  | detached x c n _ _ _ h =>
    refine inRange_finish x ?_
    rw [h, detachEffect_eq]
    have offline : InRange (madeOffline n s) := inRange_setMaster hs (hs.2.1 n)
    have tables := (detachTables_moves n s).inRange offline
    exact inRange_of_eq tables (by simp) (detachMailbox_master n _) (by simp) (by simp)
  | granted => exact hs
  | written m b _ h => exact h.inRange hs
  | masterReset n h =>
    exact h.inRange (inRange_of_eq hs (resetMailboxOf_window n _) (resetMailboxOf_master n _) (resetMailboxOf_target n _)
      (resetMailboxOf_timer n _))

theorem resetMasters_get : ∀ m : Master, resetMasters[m] = resetMaster (if m = 0 then 32 else 8) := by decide

theorem resetMaster_inRange {quota : Nat} (h : quota ≤ 32) : MasterInRange (resetMaster quota) :=
  ⟨h, by simp [resetMaster], .refl _⟩

theorem assertDeviceReset_master (s : State) (m : Master) :
    (assertDeviceReset s).master m = resetMaster (if m = 0 then 32 else 8) := resetMasters_get m

theorem assertDeviceReset_inRange (s : State) : InRange (assertDeviceReset s) := by
  refine ⟨fun i => ?_, fun m => ?_, fun t => ?_, ?_⟩
  · rw [assertDeviceReset_window]
    split <;> exact ⟨nofun, Nat.zero_le _, Nat.zero_le _, nofun⟩
  · rw [assertDeviceReset_master]
    exact resetMaster_inRange (by split <;> decide)
  · rw [assertDeviceReset_target]
    refine ⟨?_, Nat.zero_le _⟩
    rw [show (resetTarget t (s.target t).lines).settings = resetSettings t from rfl, resetSettings]
    split <;> simp [SettingsInRange]
  · exact (by simp [TimerInRange, resetTimer] : TimerInRange resetTimer)

/-! ### What R14, R25 and R3 give -/

/-- At most one access is outstanding for each of the 24 tags. -/
theorem inFlight_le (counted : CountedAccesses s) (tags : TagsAccounted s) (i : Slot) : (s.window i).inFlight ≤ 24 := by
  have one (k : Master × Tag) : s.owners.count k ≤ 1 := by
    have held := (tagsAccounted_iff.1 tags).count k.1 k.2
    rw [Prod.mk.eta] at held
    rw [State.owners]
    split at held <;> omega
  calc
    (s.window i).inFlight = through s.resolved i := (countedAccesses_iff.1 counted i).inFlight
    _ ≤ s.resolved.card := Multiset.countP_le_card _ _
    _ = s.owners.card := (Multiset.card_map _ _).symm
    _ = ∑ k : Master × Tag, s.owners.count k := (Multiset.sum_count_eq_card fun _ _ => Finset.mem_univ _).symm
    _ ≤ ∑ _k : Master × Tag, 1 := Finset.sum_le_sum fun k _ => one k
    _ = 24 := by simp

/-- Settles O59: every change keeps the ranges, and the bounds of counts and pages follow from R14, R25 and R3. -/
theorem fieldsStayInRange : Obligations.FieldsStayInRange := by
  intro s u hs h
  have range : InRange u :=
    keeps_of_row assertDeviceReset_inRange (fun _ _ h => h.inRange) (fun _ _ h => h) h hs
  refine ⟨range, inFlight_le, fun lawful i live => ?_⟩
  obtain ⟨length, below, fits, -⟩ := (lawfulWindows_iff.1 lawful).1 i live
  have size := (range.2.2.1 (u.window i).target).1.1
  omega

end

end Sys2Proof.Machine
end

section
/-! The step, the state after reset, the master ports and the resolver (chapter 2): the round robin reaches the first port
that wants to be reached, and each row of these ports is the change its rule gives. -/

namespace Sys2Proof.Machine

open Sys2Proof.Safety

section
variable {s u : State}

/-! ### The step, the prescaler and the reset -/

/-- Settles O1, the step unfolded. -/
theorem stepRunsTheFrontCommand : Obligations.StepRunsTheFrontCommand := fun _ _ _ => rfl

theorem timerCycle_of_lt (h : s.timer.cycles + 1 < (s.timer.divider + 1) * 256) :
    timerCycle s = { s with timer := { s.timer with cycles := s.timer.cycles + 1 } } :=
  if_neg (Nat.not_le.2 h)

theorem timerCycle_of_last (h : s.timer.cycles + 1 = (s.timer.divider + 1) * 256) :
    timerCycle s = tableTick { s with timer := { s.timer with cycles := 0 } } :=
  if_pos (Nat.le_of_eq h.symm)

theorem with_cycles_eq {n : Nat} (h : s.timer.cycles = n) : { s with timer := { s.timer with cycles := n } } = s := by
  subst h
  rfl

/-- Before the last cycle of a division the prescaler counts. -/
theorem timerCycle_iterate (h : s.timer.cycles = 0) {n : Nat} (hn : n < (s.timer.divider + 1) * 256) :
    timerCycle^[n] s = { s with timer := { s.timer with cycles := n } } := by
  induction n with
  | zero => exact (with_cycles_eq h).symm
  | succ n ih => rw [Function.iterate_succ_apply', ih (by omega), timerCycle_of_lt hn]

theorem timerCycle_iterate_last (h : s.timer.cycles = 0) :
    timerCycle^[(s.timer.divider + 1) * 256] s = tableTick s := by
  obtain ⟨n, hn⟩ : ∃ n, (s.timer.divider + 1) * 256 = n + 1 := ⟨_, (Nat.sub_add_cancel (by omega)).symm⟩
  rw [hn, Function.iterate_succ_apply', timerCycle_iterate h (by omega), timerCycle_of_last hn.symm]
  exact congrArg tableTick (with_cycles_eq h)

theorem allTargets_eq : allTargets = [0, 1, 2, 3] := rfl

/-- Settles O2: the cycles of a division counted out. -/
theorem prescalerTicksAfterDividedCycles : Obligations.PrescalerTicksAfterDividedCycles := by
  refine ⟨fun s h => by simp [step, h], fun s => ⟨fun h => ?_, fun h => by simp [fabricCycle, h]⟩, fun s h =>
    ⟨fun n => timerCycle_iterate h, timerCycle_iterate_last h, fun hd => ?_⟩⟩
  · simp [fabricCycle, h, allTargets_eq]
  · exact congrArg Host.Outcome.next ((if_neg (by simp [hd])).trans (congrArg tableTick (with_cycles_eq h)))

theorem reset_window (i : Slot) : State.reset.window i = if i = 0 then resetWindow else freeWindow 0#4 :=
  resetWindows_get i

theorem reset_master (m : Master) : State.reset.master m = resetMaster (if m = 0 then 32 else 8) := resetMasters_get m

theorem reset_port (m : Master) : State.reset.port m = resetPort false := by simp [State.reset, State.port]

theorem reset_mailbox (m : Master) : State.reset.mailbox m = resetMailbox := by simp [State.reset, State.mailbox]

theorem reset_target (t : Target) : State.reset.target t = resetTarget t resetLines := by
  simp [State.reset, State.target]

/-- Settles O3, record by record. -/
theorem resetContentsOfEveryBlock : Obligations.ResetContentsOfEveryBlock := by
  refine ⟨rfl, fun i hi => ?_, fun m => ?_, fun m => ?_, fun m => ?_, fun m => ?_, fun t => ?_, rfl, rfl, rfl⟩
  · rw [reset_window, if_neg hi]
    exact ⟨rfl, rfl⟩
  · rw [reset_master]
    exact ⟨rfl, rfl, rfl, rfl, rfl, rfl, rfl, rfl⟩
  · rw [reset_port]
    exact ⟨rfl, rfl, rfl, resetPort_waitingFor false, rfl, rfl⟩
  · rw [reset_mailbox]
    exact ⟨rfl, rfl, rfl, by decide⟩
  · rw [reset_mailbox]
    decide
  · rw [reset_target]
    exact ⟨rfl, rfl, rfl, rfl, rfl, rfl⟩

theorem assertDeviceReset_offerLaw (s : State) : OfferLaw (assertDeviceReset s) := fun i =>
  ⟨Window.offerMarked_of_none (assertDeviceReset_offer s i) (resetWindows_offer i).2, by
    rw [assertDeviceReset_offer]; nofun⟩

/-- The state after reset is that of a device reset with its input deasserted. -/
theorem reset_eq : State.reset = { assertDeviceReset State.reset with drst := false } := by
  have ports : State.reset.ports = (assertDeviceReset State.reset).ports := by
    refine Vector.ext fun i hi => ?_
    have own := (reset_port ⟨i, hi⟩).trans
      ((assertDeviceReset_port State.reset ⟨i, hi⟩).trans (by rw [reset_port]; rfl)).symm
    exact own
  have targets : State.reset.targets = (assertDeviceReset State.reset).targets := by
    refine Vector.ext fun i hi => ?_
    have own := (reset_target ⟨i, hi⟩).trans
      ((assertDeviceReset_target State.reset ⟨i, hi⟩).trans (by rw [reset_target]; rfl)).symm
    exact own
  exact (State.mk.injEq ..).mpr ⟨rfl, rfl, ports, rfl, targets, rfl, rfl, rfl, rfl, rfl⟩

/-- Settles O4: the invariants hold after a device reset, and none speaks of its input. -/
theorem invariantsHoldAtReset : Obligations.InvariantsHoldAtReset := by
  rw [Obligations.InvariantsHoldAtReset, reset_eq]
  let t := assertDeviceReset State.reset
  exact ⟨assertDeviceReset_lawfulWindows t, assertDeviceReset_offerLaw t, assertDeviceReset_counted t,
    assertDeviceReset_tagsAccounted t, assertDeviceReset_targetPortLaw t, assertDeviceReset_noticesUnique t, ⟨rfl, rfl⟩,
    assertDeviceReset_offlineLaw t, assertDeviceReset_mailboxLaw t, assertDeviceReset_inRange t⟩

/-! ### Outstanding accesses -/

theorem countP_eq_sum {α : Type} (p : α → Bool) (l : List α) :
    l.countP p = (l.map fun a => if p a then 1 else 0).sum := by
  induction l with
  | nil => rfl
  | cons a l ih => rw [List.countP_cons, ih, List.map_cons, List.sum_cons, add_comm]

theorem outstanding_eq (p : MasterPort) : p.outstanding = ∑ t : Tag, if p.tags[t] = .free then 0 else 1 := by
  rw [MasterPort.outstanding, countP_eq_sum, allTags, ← Fin.sum_univ_def]
  refine Finset.sum_congr rfl fun t _ => ?_
  cases p.tags[t] <;> rfl

/-- One tag set: the count changes by what the tag was and is. -/
theorem outstanding_setTag (p : MasterPort) (t : Tag) (v : TagState) :
    (p.setTag t v).outstanding + (if p.tags[t] = .free then 0 else 1) =
      p.outstanding + if v = .free then 0 else 1 := by
  rw [outstanding_eq, outstanding_eq, ← sum_replace (fun t => if p.tags[t] = .free then 0 else 1) t]
  congr 1
  refine Finset.sum_congr rfl fun j _ => ?_
  rw [MasterPort.tag_setTag]
  split <;> rfl

theorem mayAccept_iff {m : Master} {t : Tag} :
    s.mayAccept m t = true ↔
      s.drst = false ∧ (s.port m).lineAsserted = false ∧ (s.port m).reopenWait = false ∧ (s.port m).tags[t] = .free := by
  simp [State.mayAccept, MasterPort.tagFree, and_assoc]

theorem accept_eq (p : MasterPort) (r : Request) :
    p.accept r =
      if r.addr.toNat / 4096 < 65520 then
        { p with tags := p.tags.set r.tag (.inUse false), unresolved := p.unresolved ++ [r] }
      else { p with tags := p.tags.set r.tag (.inUse false), aperture := p.aperture ++ [r] } := by
  have page : isAperture r = true ↔ ¬ r.addr.toNat / 4096 < 65520 := by
    rw [isAperture, decide_eq_true_iff, Nat.not_lt]
    rfl
  unfold MasterPort.accept
  by_cases h : r.addr.toNat / 4096 < 65520
  · rw [if_pos h, if_neg (fun e => page.1 e h)]
    rfl
  · rw [if_neg h, if_pos (page.2 h)]
    rfl

theorem outstanding_accept {p : MasterPort} {r : Request} (h : p.tags[r.tag] = .free) :
    (p.accept r).outstanding = p.outstanding + 1 := by
  have count := outstanding_setTag p r.tag (.inUse false)
  rw [if_pos h, if_neg (by simp)] at count
  have same : (p.accept r).outstanding = (p.setTag r.tag (.inUse false)).outstanding := by
    unfold MasterPort.accept
    dsimp only
    split <;> rfl
  omega

/-- Settles O5: a request is accepted exactly when the port may accept it. -/
theorem requestAcceptedUnderThreeConditions : Obligations.RequestAcceptedUnderThreeConditions := by
  refine fun m r s => ⟨fun hd hl hw ht => ⟨_, ?_, accept_eq (s.port m) r, outstanding_accept ht⟩, fun h => ?_⟩
  · rw [exec, execRequestAcceptance, if_pos (mayAccept_iff.2 ⟨hd, hl, hw, ht⟩)]
  · rw [exec, execRequestAcceptance, if_neg]
    rw [mayAccept_iff]
    rintro ⟨hd, hl, hw, ht⟩
    simp [hd, hl, hw, ht] at h

/-- Settles O6: the head of the response list leaves the port with its tag. -/
theorem responseReturnFreesTheTag : Obligations.ResponseReturnFreesTheTag := by
  intro m r rest s h
  have head : (s.port m).returnHead =
      { s.port m with tags := (s.port m).tags.set r.tag .free, responses := rest, returned := some r } := by
    simp [MasterPort.returnHead, h, MasterPort.setTag]
  refine ⟨(s.port m).returnHead, rfl, head, fun inUse => ?_⟩
  have count := outstanding_setTag (s.port m) r.tag .free
  rw [if_neg inUse, if_pos rfl] at count
  rw [head]
  exact count

/-! ### The round robin -/

/-- The round robin reaches the first port after the last one that wants to be reached (R28, R49, R74). -/
theorem nextInTurn_of_firstAfter {last m : Master} {wants : Master → Prop} {b : Master → Bool}
    (hb : ∀ n, b n = true ↔ wants n) (h : FirstAfter last wants m) : nextInTurn last b = some m := by
  obtain ⟨wanted, k, rfl, before⟩ := h
  rw [nextInTurn, List.find?_eq_some_iff_getElem]
  refine ⟨(hb _).2 wanted, k.val, by simp [roundRobin], by simp [roundRobin], fun j hj => ?_⟩
  have unwanted := before ⟨j, hj.trans k.isLt⟩ hj
  simpa [roundRobin, ← hb] using unwanted

end

end Sys2Proof.Machine
end

section
/-! The resolver (R28 to R35): the decision of an access by the windows that cover its page, and what the taking of an
access does on a hit and on a refusal. -/

namespace Sys2Proof.Machine

open Sys2Proof.Safety

section
variable {s u : State}

/-! ### Resolution -/

/-- The state in which the resolver decides about the head of a port's list: taken, the pointer at the port. -/
def State.taken (s : State) (m : Master) (rest : List Request) : State :=
  State.setPort { s with resolverPointer := m } m { s.port m with unresolved := rest }

theorem taken_port (s : State) (m : Master) (rest : List Request) :
    (s.taken m rest).port m = { s.port m with unresolved := rest } := by
  rw [State.taken, State.port_setPort, if_pos rfl]

theorem taken_setPort (s : State) (m : Master) (rest : List Request) (p : MasterPort) :
    (s.taken m rest).setPort m p = State.setPort { s with resolverPointer := m } m p := State.setPort_setPort ..

/-- RESOLUTION takes the head of the list of the first presenting port (R28). -/
theorem exec_resolution {m : Master} {r : Request} {rest : List Request}
    (first : FirstAfter s.resolverPointer (fun n => (s.port n).unresolved ≠ []) m)
    (h : (s.port m).unresolved = r :: rest) : exec .resolution s = .next (takeAccess m r (s.taken m rest)) := by
  have turn : nextInTurn s.resolverPointer (fun n => !(s.port n).unresolved.isEmpty) = some m :=
    nextInTurn_of_firstAfter (fun n => by simp) first
  rw [exec, execResolution, turn]
  dsimp only
  rw [h]
  rfl

theorem formOk_eq_some {r : Request} {k : AccessKind} {f : Form} (hk : AccessKind.ofCode r.kind.toNat = some k)
    (hf : Form.ofCode r.size.toNat = some f) (aligned : r.addr.toNat % f.size = 0) : formOk r = some (k, f) := by
  simp [formOk, reqKind, reqForm, hk, hf, aligned]

theorem formOk_eq_none {r : Request}
    (h : AccessKind.ofCode r.kind.toNat = none ∨ Form.ofCode r.size.toNat = none ∨
      ∃ f, Form.ofCode r.size.toNat = some f ∧ r.addr.toNat % f.size ≠ 0) : formOk r = none := by
  unfold formOk reqKind reqForm
  obtain h | h | ⟨f, h, misaligned⟩ := h
  · rw [h]
  · cases AccessKind.ofCode r.kind.toNat <;> simp [h]
  · cases AccessKind.ofCode r.kind.toNat <;> simp [h, misaligned]

theorem takeAccess_of_online {m : Master} {r : Request} (h : (s.master m).state = .online) :
    takeAccess m r s = resolveAccess m r s := by simp [takeAccess, h]

/-- The write data in ascending address order, from the fabric byte positions of the words (R34, R53). -/
theorem requestBytes_eq (r : Request) (f : Form) :
    requestBytes r f = (List.range f.size).map fun j =>
      (r.wdata.getD ((r.addr.toNat % 4 + j) / 4) 0#32).extractLsb' (8 * ((r.addr.toNat + j) % 4)) 8 := by
  refine List.map_congr_left fun j _ => ?_
  rw [requestByte, laneByte, Nat.mod_add_mod]

theorem resolveAccess_of_hit {m : Master} {r : Request} {k : AccessKind} {f : Form} {i : Slot}
    (form : formOk r = some (k, f)) (hit : decideAccess s m (pageOf r.addr) k = .hit i) :
    resolveAccess m r s = hitAccess m r k f i s := by
  rw [resolveAccess, form]
  dsimp only
  rw [hit]

/-- Settles O7: the hit, with its count and its translation. -/
theorem resolutionOfAHitCountsAndTranslates : Obligations.ResolutionOfAHitCountsAndTranslates := by
  intro s m r rest k f i first head online kind form aligned hit
  have resolved : takeAccess m r (s.taken m rest) = hitAccess m r k f i (s.taken m rest) :=
    (takeAccess_of_online (s := s.taken m rest) online).trans
      (resolveAccess_of_hit (s := s.taken m rest) (formOk_eq_some kind form aligned) hit)
  rw [exec_resolution first head, resolved]
  have replaced (v : Window) (p : MasterPort) : ((s.taken m rest).setWindow i v).setPort m p =
      (State.setWindow { s with resolverPointer := m } i v).setPort m p :=
    State.setPort_setPort (State.setWindow { s with resolverPointer := m } i v) m { s.port m with unresolved := rest } p
  rw [hitAccess, State.port_setWindow, taken_port, replaced, resolvedOf, requestBytes_eq]
  rfl

/-! ### Refusals -/

theorem enterRecord_some {old : FaultRecord} {f : FaultReport} (h : old.count ≤ 255) :
    enterRecord (some old) f = { first := old.first, latest := f.kind, count := min 255 (old.count + 1) } := by
  rw [enterRecord]
  split
  case isTrue below => rw [Nat.min_eq_right below]
  case isFalse full =>
    have last : old.count = 255 := by omega
    rw [last]
    rfl

theorem not_dropped_iff {p : MasterPort} {t : Tag} : p.dropped t = false ↔ p.tags[t] ≠ .inUse true := by
  simp [MasterPort.dropped]

/-- Without a drop mark the response joins the list of its port. -/
theorem answer_none_of_kept {m : Master} {r : Response} (h : (s.port m).tags[r.tag] ≠ .inUse true) :
    answer m r none s = s.setPort m { s.port m with responses := (s.port m).responses ++ [r] } := by
  simp [answer, not_dropped_iff.2 h]

/-- Without a drop mark the response joins the list of its port, and the report the record of its master. -/
theorem answer_some_of_kept {m : Master} {r : Response} {f : FaultReport} (h : (s.port m).tags[r.tag] ≠ .inUse true) :
    answer m r (some f) s =
      enterReport m f (s.setPort m { s.port m with responses := (s.port m).responses ++ [r] }) := by
  simp [answer, not_dropped_iff.2 h]

/-- The answer to a taken request that is not resolved, without its report. -/
def State.answered (s : State) (m : Master) (r : Request) (rest : List Request) (code : RespCode) : State :=
  State.setPort { s with resolverPointer := m } m
    { s.port m with
      unresolved := rest
      responses := (s.port m).responses ++ [{ tag := r.tag, code := code, data := .zero }] }

theorem answer_taken {m : Master} {r : Request} {rest : List Request} {code : RespCode}
    (kept : (s.port m).tags[r.tag] ≠ .inUse true) :
    answer m { tag := r.tag, code := code, data := .zero } none (s.taken m rest) = s.answered m r rest code := by
  rw [answer_none_of_kept (by rw [taken_port]; exact kept), taken_setPort, taken_port]
  rfl

/-- The kinds a resolution can end with (R30 to R33), of which all but TARGET_DOWN hold (R138). -/
def FaultKind.refuses (k : FaultKind) : Prop :=
  k ∈ [FaultKind.badAccess, .noWindow, .notMember, .rights, .lapsed, .retiring, .targetDown]

theorem FaultKind.refuses.holds_iff {k : FaultKind} (h : k.refuses) : k.holds = true ↔ k ≠ .targetDown := by
  cases k <;> simp [FaultKind.refuses, FaultKind.holds] at h ⊢

theorem decideAt_refused {i j : Slot} {k : AccessKind} {fk : FaultKind} (h : decideAt s i k = .refused fk j) :
    fk.refuses := by
  unfold decideAt at h
  split_ifs at h <;> cases h <;> simp [FaultKind.refuses]

theorem decideAccess_refused {m : Master} {page : Nat} {k : AccessKind} {fk : FaultKind} {i : Slot}
    (h : decideAccess s m page k = .refused fk i) : fk.refuses := by
  unfold decideAccess at h
  split at h
  case h_1 => exact decideAt_refused h
  case h_2 =>
    split at h
    case h_1 => cases h
    case h_2 =>
      split at h
      case isTrue => exact decideAt_refused h
      case isFalse => cases h; simp [FaultKind.refuses]

theorem refuseAccess_taken {m : Master} {r : Request} {rest : List Request} {k : FaultKind} {i : Option Slot}
    (kept : (s.port m).tags[r.tag] ≠ .inUse true) (online : (s.master m).state = .online) (hk : k.refuses) :
    refuseAccess m r k i (s.taken m rest) =
      (s.answered m r rest (.fault k)).setMaster m
        { s.master m with
          faultRecord := some (enterRecord (s.master m).faultRecord (refusedReport s r k i))
          notices := insertNotice faultNotice (s.master m).notices
          state := if k ≠ .targetDown ∧ (s.master m).policy = .hold then .held else .online } := by
  have held : (if k.holds && (s.master m).policy == .hold then MasterState.held else (s.master m).state) =
      if k ≠ .targetDown ∧ (s.master m).policy = .hold then .held else .online := by
    simp [online, hk.holds_iff]
  rw [refuseAccess, answer_some_of_kept (by rw [taken_port]; exact kept), taken_setPort, taken_port, ← held]
  rfl

/-- Settles O8: each refusal is an answer and, of an ONLINE master's access, a report. -/
theorem resolutionWithoutAHitAnswersAtOnce : Obligations.ResolutionWithoutAHitAnswersAtOnce := by
  refine ⟨fun f => rfl, fun old f => enterRecord_some, fun s m r rest first head kept =>
    ⟨fun held => ?_, fun offline => ?_,
    fun online => ⟨fun malformed => ?_, fun k f kind form aligned => ⟨fun none => ?_, fun fk i refused => ?_⟩⟩⟩⟩ <;>
    rw [exec_resolution first head] <;> refine congrArg Host.Outcome.next ?_
  · have taken : takeAccess m r (s.taken m rest) =
        answer m { tag := r.tag, code := .held, data := .zero } none (s.taken m rest) := by
      rw [takeAccess, show ((s.taken m rest).master m).state = .held from held]
    exact taken.trans (answer_taken kept)
  · have taken : takeAccess m r (s.taken m rest) =
        answer m { tag := r.tag, code := .detached, data := .zero } none (s.taken m rest) := by
      rw [takeAccess, show ((s.taken m rest).master m).state = .offline from offline]
    exact taken.trans (answer_taken kept)
  · refine (takeAccess_of_online (s := s.taken m rest) online).trans ?_
    rw [resolveAccess, formOk_eq_none malformed]
    exact refuseAccess_taken kept online (by simp [FaultKind.refuses])
  · refine (takeAccess_of_online (s := s.taken m rest) online).trans ?_
    rw [resolveAccess, formOk_eq_some kind form aligned]
    dsimp only
    rw [show decideAccess (s.taken m rest) m (pageOf r.addr) k = .noWindow from none]
    exact refuseAccess_taken kept online (by simp [FaultKind.refuses])
  · refine (takeAccess_of_online (s := s.taken m rest) online).trans ?_
    rw [resolveAccess, formOk_eq_some kind form aligned]
    dsimp only
    rw [show decideAccess (s.taken m rest) m (pageOf r.addr) k = .refused fk i from refused]
    exact refuseAccess_taken kept online (decideAccess_refused refused)

/-! ### The decision -/

/-- A live window over a page. -/
def Window.over (w : Window) (page : Nat) : Prop := w.live = true ∧ w.covers page = true

theorem Window.over_iff {w : Window} {page : Nat} :
    w.over page ↔ w.state ≠ .free ∧ w.fabricBase ≤ page ∧ page < w.fabricBase + w.length := by
  simp [Window.over, Window.live_iff, Window.covers]

theorem not_apart_of_over {w v : Window} {page : Nat} (h : w.over page) (h' : v.over page) :
    ¬ Apart w.fabricBase w.length v.fabricBase v.length := by
  rw [Window.over_iff] at h h'
  unfold Apart
  omega

theorem find?_allSlots_unique {p : Slot → Bool} {i : Slot} (hi : p i = true) (unique : ∀ j, p j = true → j = i) :
    allSlots.find? p = some i := by
  cases h : allSlots.find? p with
  | none => simpa [hi] using List.find?_eq_none.1 h i (List.mem_finRange i)
  | some j => rw [unique j (by simpa using List.find?_some h)]

theorem find?_allSlots_none {p : Slot → Bool} (h : ∀ j, ¬ p j = true) : allSlots.find? p = none :=
  List.find?_eq_none.2 fun j _ => h j

/-- The windows of a master's own layer over a page. -/
theorem privateOver_eq_some {m : Master} {page : Nat} {i : Slot} (law : LawfulWindows s)
    (h : (s.window i).over page ∧ (s.window i).layer = .priv ∧ (s.window i).holder = m) :
    s.privateOver m page = some i := by
  obtain ⟨⟨live, covers⟩, layer, holder⟩ := h
  refine find?_allSlots_unique (by simp [live, layer, holder, covers]) fun j hj => ?_
  simp only [Bool.and_eq_true, beq_iff_eq] at hj
  obtain ⟨⟨⟨live', layer'⟩, holder'⟩, covers'⟩ := hj
  by_contra ne
  exact not_apart_of_over ⟨live', covers'⟩ ⟨live, covers⟩
    (((lawfulWindows_iff.1 law).2 j i ne live' live).priv layer' layer (holder'.trans holder.symm))

theorem privateOver_eq_none {m : Master} {page : Nat}
    (h : ∀ i, ¬((s.window i).over page ∧ (s.window i).layer = .priv ∧ (s.window i).holder = m)) :
    s.privateOver m page = none := by
  refine find?_allSlots_none fun j hj => h j ?_
  simp only [Bool.and_eq_true, beq_iff_eq] at hj
  obtain ⟨⟨⟨live, layer⟩, holder⟩, covers⟩ := hj
  exact ⟨⟨live, covers⟩, layer, holder⟩

theorem commonOver_eq_some {page : Nat} {i : Slot} (law : LawfulWindows s)
    (h : (s.window i).over page ∧ (s.window i).layer = .common) : s.commonOver page = some i := by
  obtain ⟨⟨live, covers⟩, layer⟩ := h
  refine find?_allSlots_unique (by simp [live, layer, covers]) fun j hj => ?_
  simp only [Bool.and_eq_true, beq_iff_eq] at hj
  obtain ⟨⟨live', layer'⟩, covers'⟩ := hj
  by_contra ne
  exact not_apart_of_over ⟨live', covers'⟩ ⟨live, covers⟩
    (((lawfulWindows_iff.1 law).2 j i ne live' live).common layer' layer)

theorem commonOver_eq_none {page : Nat} (h : ∀ i, ¬((s.window i).over page ∧ (s.window i).layer = .common)) :
    s.commonOver page = none := by
  refine find?_allSlots_none fun j hj => h j ?_
  simp only [Bool.and_eq_true, beq_iff_eq] at hj
  obtain ⟨⟨live, layer⟩, covers⟩ := hj
  exact ⟨⟨live, covers⟩, layer⟩

/-- The checks of the deciding window in order (R32, R33). -/
theorem decideAt_eq (s : State) (i : Slot) (k : AccessKind) :
    decideAt s i k =
      if (s.window i).rights.getLsbD k.code = false then Decision.refused .rights i
      else if (s.window i).state = .lapsed then .refused .lapsed i
      else if (s.window i).state = .draining then .refused .retiring i
      else if (s.target (s.window i).target).state ≠ .online then .refused .targetDown i
      else .hit i := by
  simp [decideAt, Window.admits]

theorem hasMember_iff {w : Window} {m : Master} :
    w.hasMember m = true ↔ ∃ set ∈ w.members, set.getLsbD m.val = true := by
  unfold Window.hasMember
  split <;> simp_all

/-- Settles O9: the window that decides is the one the search finds, as at most one covers the page. -/
theorem decidingWindowAndOrderOfChecks : Obligations.DecidingWindowAndOrderOfChecks := by
  intro s m page k law
  simp only [← Window.over_iff]
  refine ⟨fun i own => ?_, fun noOwn i shared => ?_, fun noOwn noShared => ?_⟩
  · rw [decideAccess, privateOver_eq_some law own]
    exact decideAt_eq s i k
  · rw [decideAccess, privateOver_eq_none noOwn, commonOver_eq_some law shared]
    simp only [hasMember_iff, decideAt_eq]
  · rw [decideAccess, privateOver_eq_none noOwn, commonOver_eq_none noShared]

theorem decideAt_congr {i : Slot} {k : AccessKind} (hw : s.window i = u.window i)
    (ht : ∀ t, (s.target t).state = (u.target t).state) : decideAt s i k = decideAt u i k := by
  simp only [decideAt_eq, hw, ht]

/-- A test that passes only where two values agree passes of both or of neither. -/
theorem test_eq_of_agree {α : Type} {f : α → Bool} {P : α → Prop} {a b : α} (passes : ∀ x, f x = true → P x)
    (agree : P a ∨ P b → a = b) : f a = f b := by
  by_cases same : P a ∨ P b
  · rw [agree same]
  · obtain ⟨first, second⟩ := not_or.1 same
    rw [Bool.eq_false_iff.2 (mt (passes a) first), Bool.eq_false_iff.2 (mt (passes b) second)]

/-- A live window that can decide an access of a master: a common one or one of the master's own (R31). -/
def Window.MayDecide (m : Master) (w : Window) : Prop := w.state ≠ .free ∧ (w.layer = .common ∨ w.holder = m)

/-- Settles O10: neither search reads a window of another master's own layer. -/
theorem otherMastersPrivateWindowsDoNotDecide : Obligations.OtherMastersPrivateWindowsDoNotDecide := by
  intro s u m page k seen agree targets
  have privates : s.privateOver m page = u.privateOver m page := by
    refine congrArg allSlots.find? (funext fun i => ?_)
    refine test_eq_of_agree (f := fun w : Window => w.live && w.layer == .priv && w.holder == m && w.covers page)
      (P := Window.MayDecide m) (fun w passes => ?_) (agree i)
    simp only [Bool.and_eq_true, beq_iff_eq] at passes
    obtain ⟨⟨⟨live, _⟩, holder⟩, _⟩ := passes
    exact ⟨Window.live_iff.1 live, .inr holder⟩
  have commons : s.commonOver page = u.commonOver page := by
    refine congrArg allSlots.find? (funext fun i => ?_)
    refine test_eq_of_agree (f := fun w : Window => w.live && w.layer == .common && w.covers page)
      (P := Window.MayDecide m) (fun w passes => ?_) (agree i)
    simp only [Bool.and_eq_true, beq_iff_eq] at passes
    obtain ⟨⟨live, layer⟩, _⟩ := passes
    exact ⟨Window.live_iff.1 live, .inl layer⟩
  rw [decideAccess, decideAccess, ← privates, ← commons]
  split
  case h_1 i found =>
    have own := List.find?_some found
    simp only [Bool.and_eq_true, beq_iff_eq] at own
    obtain ⟨⟨⟨live, -⟩, holder⟩, -⟩ := own
    exact decideAt_congr (agree i (.inl ⟨Window.live_iff.1 live, .inr holder⟩)) targets
  case h_2 =>
    split
    case h_1 => rfl
    case h_2 i found =>
      have shared := List.find?_some found
      simp only [Bool.and_eq_true, beq_iff_eq] at shared
      obtain ⟨⟨live, layer⟩, -⟩ := shared
      have same := agree i (.inl ⟨Window.live_iff.1 live, .inl layer⟩)
      rw [decideAt_congr same targets, same]

end

end Sys2Proof.Machine
end

section
/-! Admission, start, recovery and the ends of beats and of accesses (R49, R51, R54 to R57, R60): the bytes of a word by
lanes, and the change each row makes of its port. -/

namespace Sys2Proof.Machine

open Sys2Proof.Safety

section
variable {s u : State}

/-! ### Lanes of a word -/

theorem laneByte_or (w v : Word) (k : Nat) : laneByte (w ||| v) k = laneByte w k ||| laneByte v k := by
  simp [laneByte, BitVec.extractLsb'_or]

/-- The byte on a lane is the one put there, and every other lane is zero (R53). -/
theorem laneByte_onLane (b : Byte) {j k : Nat} (hk : k < 4) : laneByte (onLane b j) k = if j = k then b else 0#8 := by
  refine BitVec.eq_of_getLsbD_eq fun i hi => ?_
  simp only [laneByte, onLane, BitVec.getLsbD_extractLsb', BitVec.getLsbD_shiftLeft, BitVec.getLsbD_setWidth]
  obtain h | rfl | h := Nat.lt_trichotomy j k
  · have high : b.getLsbD (8 * k + i - 8 * j) = false := BitVec.getLsbD_of_ge _ _ (by omega)
    simp [high, h.ne]
  · have inside : 8 * j + i < 32 := by omega
    have short : i < 32 := by omega
    simp [hi, inside, short]
  · have low : 8 * k + i < 8 * j := by omega
    simp [low, h.ne']

theorem laneByte_wordOfBytes (b0 b1 b2 b3 : Byte) {j : Nat} (hj : j < 4) :
    laneByte (wordOfBytes b0 b1 b2 b3) j = [b0, b1, b2, b3].getD j 0#8 := by
  simp only [wordOfBytes, laneByte_or, laneByte_onLane _ hj]
  interval_cases j <;> simp

/-- Byte `j` of word `n` is byte `4 n + j` of the data (R40). -/
theorem wordsOfBytes_spec (bs : List Byte) :
    (wordsOfBytes bs).length = bs.length / 4 ∧
      ∀ n j, n < bs.length / 4 → j < 4 → laneByte ((wordsOfBytes bs).getD n 0#32) j = bs.getD (4 * n + j) 0#8 := by
  induction bs using wordsOfBytes.induct with
  | case1 b0 b1 b2 b3 rest ih =>
    obtain ⟨length, bytes⟩ := ih
    rw [wordsOfBytes]
    refine ⟨by simp only [List.length_cons, length]; omega, fun n j hn hj => ?_⟩
    cases n with
    | zero =>
      rw [List.getD_cons_zero, laneByte_wordOfBytes b0 b1 b2 b3 hj]
      interval_cases j <;> rfl
    | succ n =>
      rw [List.getD_cons_succ, bytes n j (by simp only [List.length_cons] at hn; omega) hj]
      rw [show 4 * (n + 1) + j = 4 * n + j + 4 by omega]
      rfl
  | case2 bs short =>
    have few : bs.length < 4 := by
      match bs, short with
      | [], _ => simp
      | [_], _ => simp
      | [_, _], _ => simp
      | [_, _, _], _ => simp
      | _ :: _ :: _ :: _ :: _, short => exact absurd rfl (short _ _ _ _ _)
    rw [wordsOfBytes.eq_2 bs short]
    refine ⟨by simp; omega, fun n j hn => by omega⟩

/-! ### Admission, start and recovery -/

/-- The end of a recovery: the next beat of the access, or IDLE (R55). -/
theorem recoveryEnds_eq (t : Target) (s : State) :
    recoveryEnds t s = s.setTarget t
      (match (s.target t).running with
       | some _ => { s.target t with phase := .beat, waitDone := false, count := 0, lanesDropped := false }
       | none => { s.target t with phase := .idle, waitDone := false, count := 0, captured := none }) := by
  unfold recoveryEnds TargetPort.beginBeat
  cases h : (s.target t).running <;> simp only [h]

/-- Settles O11: the three rows at a port that is ready for them. -/
theorem admissionStartAndRecovery : Obligations.AdmissionStartAndRecovery := by
  refine fun t s => ⟨fun m a rest online room first head => ?_, fun a rest idle online head => ?_, fun recovery => ?_⟩
  · have turn : nextInTurn (s.target t).pointer (fun n => !((s.port n).waitingFor t).isEmpty) = some m :=
      nextInTurn_of_firstAfter (fun n => by simp) first
    simp only [exec, execAdmission, online, Config.queueDepth, room, turn, head]
    rfl
  · rw [exec, execAccessStart, if_pos (by simp [idle, online])]
    simp only [head]
    rfl
  · rw [exec, execRecoveryEnd, if_pos (by simp [recovery]), recoveryEnds_eq] <;> rfl

/-! ### The end of a beat -/

theorem setLines_target_self (t : Target) (lines : TargetLines) (s : State) :
    (setLines t lines s).target t = { s.target t with lines := lines } := by simp [setLines]

theorem setLines_setTarget (t : Target) (lines : TargetLines) (s : State) (p : TargetPort) :
    (setLines t lines s).setTarget t p = s.setTarget t p := State.setTarget_setTarget ..

theorem readData_eq (a : Resolved) (bs : List Byte) :
    readData a bs =
      if a.form ∈ [Form.single1, .single2, .single4] then .bytes (Fin.ofNat 4 (a.addr.toNat % 4)) bs
      else .words (wordsOfBytes bs) := by
  have position : bytePosition a.addr = Fin.ofNat 4 (a.addr.toNat % 4) := Fin.ext (by simp [bytePosition, Fin.ofNat])
  rw [readData, position]
  cases a.form <;> rfl

/-- Settles O12: with the lines sampled, the beat ends by them. -/
theorem beatEndsByReadyAndError : Obligations.BeatEndsByReadyAndError := by
  refine ⟨fun bs => wordsOfBytes_spec bs, fun t s r c error data beat running captured => ?_⟩
  intro got after ended
  have ends : endBeat t error data (setLines t { ready := true, error := error, data := data } s) = ended := by
    simp only [endBeat, setLines_target_self, running, captured, setLines_setTarget, TargetPort.beginRecovery,
      readData_eq, ended, after, got]
  refine ⟨fun waiting => ?_, fun waiting => ?_, fun held => ?_⟩
  · have inWait : (s.target t).inWait = true := by simp [TargetPort.inWait, beat, waiting]
    rw [exec, execWaitCountEnd, if_pos inWait, waitCountEnds, setLines_target_self, if_pos rfl, ends]
  · have inWait : (s.target t).inWait = true := by simp [TargetPort.inWait, beat, waiting]
    rw [exec, execWaitCountEnd, if_pos inWait, waitCountEnds, setLines_target_self, if_neg (by simp),
      setLines_setTarget]
  · have inHold : (s.target t).inHold = true := by simp [TargetPort.inHold, beat, held]
    rw [exec, execBeatEnd, if_pos inHold, ends]

/-! ### The end of an access -/

theorem countOut_window_eq (i : Slot) (s : State) (j : Slot) :
    (countOut i s).window j =
      if j = i then
        if (s.window i).state = .draining ∧ (s.window i).inFlight ≤ 1 then freeWindow ((s.window i).gen + 1)
        else { s.window i with inFlight := (s.window i).inFlight - 1 }
      else s.window j := by
  simp [Nat.sub_eq_zero_iff_le]

/-- A slot that becomes FREE tells its holder the cause, unless there is none or the holder is OFFLINE (R17, R20). -/
theorem freeSlot_notices (i : Slot) (c : RetireNotice) (s : State) (n : Master) :
    ((freeSlot i c s).master n).notices =
      if c ≠ .none ∧ n = (s.window i).holder ∧ (s.master n).state ≠ .offline then
        insertNotice (retiredNotice i (s.window i).gen c) (s.master n).notices
      else (s.master n).notices := by
  unfold freeSlot
  dsimp only
  by_cases e : n = (s.window i).holder
  · subst e
    split
    case isTrue h =>
      rw [if_neg]
      · simp
      · rintro ⟨cause, -, online⟩
        simp [cause, online] at h
    case isFalse h =>
      simp only [Bool.or_eq_true, beq_iff_eq, not_or] at h
      rw [if_pos ⟨h.1, rfl, h.2⟩]
      simp [raiseNotice]
  · split <;> simp [raiseNotice, e]

theorem countOut_notices (i : Slot) (s : State) (n : Master) :
    ((countOut i s).master n).notices =
      if ((s.window i).state = .draining ∧ (s.window i).inFlight ≤ 1) ∧ (s.window i).retireNotice ≠ .none ∧
          n = (s.window i).holder ∧ (s.master n).state ≠ .offline then
        insertNotice (retiredNotice i (s.window i).gen (s.window i).retireNotice) (s.master n).notices
      else (s.master n).notices := by
  unfold countOut
  dsimp only
  by_cases e : (s.window i).state = .draining ∧ (s.window i).inFlight ≤ 1
  · rw [if_pos (by simpa [Nat.sub_eq_zero_iff_le] using e), freeSlot_notices]
    simp [e]
  · rw [if_neg (by simpa [Nat.sub_eq_zero_iff_le] using e)]
    simp [e]

theorem dropped_iff {p : MasterPort} {t : Tag} : p.dropped t = true ↔ p.tags[t] = .inUse true := beq_iff_eq

/-- The record of a master after an answer: the report enters it where there is one and the access is not dropped. -/
theorem answer_faultRecord (m : Master) (r : Response) (o : Option FaultReport) (s : State) (n : Master) :
    ((answer m r o s).master n).faultRecord =
      if n = m ∧ (s.port m).tags[r.tag] ≠ .inUse true then
        match o with
        | some f => some (enterRecord (s.master n).faultRecord f)
        | none => (s.master n).faultRecord
      else (s.master n).faultRecord := by
  rw [answer_master]
  cases o with
  | none => simp
  | some f =>
    by_cases kept : (s.port m).tags[r.tag] = .inUse true
    · rw [if_neg (fun h => h.2 kept)]
      dsimp only
      rw [if_pos (dropped_iff.2 kept)]
    · dsimp only
      rw [if_neg (kept ∘ dropped_iff.1), enterReport_master]
      by_cases e : n = m
      · subst e
        rw [if_pos (And.intro (Eq.refl n) kept), if_pos (Eq.refl n)]
      · rw [if_neg e, if_neg (fun h => e h.1)]

theorem answer_notices (m : Master) (r : Response) (o : Option FaultReport) (s : State) (n : Master) :
    ((answer m r o s).master n).notices =
      if n = m ∧ (s.port m).tags[r.tag] ≠ .inUse true ∧ o.isSome = true then
        insertNotice faultNotice (s.master n).notices
      else (s.master n).notices := by
  rw [answer_master]
  cases o with
  | none => simp
  | some f =>
    by_cases kept : (s.port m).tags[r.tag] = .inUse true
    · rw [if_neg (fun h => h.2.1 kept)]
      dsimp only
      rw [if_pos (dropped_iff.2 kept)]
    · dsimp only
      rw [if_neg (kept ∘ dropped_iff.1), enterReport_master]
      by_cases e : n = m
      · subst e
        rw [if_pos (And.intro (Eq.refl n) (And.intro kept (Option.isSome_some (a := f)))), if_pos (Eq.refl n)]
      · rw [if_neg e, if_neg (fun h => e h.1)]

/-- A report of a kind that does not hold leaves the state of its master (R138). -/
theorem answer_master_state (m : Master) (r : Response) {o : Option FaultReport} (s : State) (n : Master)
    (h : ∀ f ∈ o, f.kind.holds = false) : ((answer m r o s).master n).state = (s.master n).state := by
  rw [answer_master]
  cases o with
  | none => rfl
  | some f =>
    dsimp only
    split
    case isTrue => rfl
    case isFalse =>
      rw [enterReport_master]
      split
      case isTrue e => simp [h f rfl, e]
      case isFalse => rfl

/-- Settles O13: the access counted out, and its response due. -/
theorem endOfAccessCountsOutAndAnswers : Obligations.EndOfAccessCountsOutAndAnswers := by
  intro a s t code data report ends w p freed kept
  obtain ⟨due, quiet⟩ : t = answer a.master { tag := a.tag, code := code, data := data } report (countOut a.slot s) ∧
      ∀ f ∈ report, f.kind.holds = false := by
    obtain ⟨rfl, rfl, rfl⟩ | ⟨k, hk, rfl, rfl, rfl, rfl⟩ := ends
    · exact ⟨rfl, by simp⟩
    · refine ⟨rfl, fun f hf => ?_⟩
      obtain rfl := Option.some.inj hf
      simp only [List.mem_cons, List.not_mem_nil, or_false] at hk
      obtain rfl | rfl | rfl := hk <;> rfl
  have port : (countOut a.slot s).port a.master = p := countOut_port ..
  subst due
  refine ⟨fun j => ?_, fun n => ?_, fun kept => ?_, fun dropped => ?_, fun n other => ?_, fun n => ?_, fun n => ?_,
    fun g => by simp, fun n => by simp, by simp, by simp, by simp, by simp, by simp⟩
  · rw [answer_window, countOut_window_eq]
  · rw [answer_notices, countOut_notices, port]
    rfl
  · rw [answer_port_self, port, if_neg (kept ∘ dropped_iff.1)]
  · rw [answer_port_self, port, if_pos (dropped_iff.2 (not_not.1 dropped))]
    rfl
  · rw [answer_port_of_ne _ _ _ _ other, countOut_port]
  · rw [answer_faultRecord, port, countOut_master_faultRecord] <;> rfl
  · rw [answer_master_state _ _ _ _ quiet]
    simp

end

end Sys2Proof.Machine
end

section
/-! Beats (R52 to R55): the lanes a beat puts its bytes on, the pins of a port, and how many fabric cycles a beat and a
recovery take. -/

namespace Sys2Proof.Machine

open Sys2Proof.Safety

section
variable {s u : State}

/-! ### Lanes of a beat -/

theorem Width.bytes_pos (w : Width) : 0 < w.bytes := by cases w <;> decide

theorem Width.bytes_le (w : Width) : w.bytes ≤ 4 := by cases w <;> decide

theorem beatBytes_le (f : Form) (w : Width) : beatBytes f w ≤ w.bytes := Nat.min_le_right ..

/-- Bytes ORed onto lanes leave a lane on which none stands. -/
theorem laneByte_foldl_of_none {b : Nat → Byte} {pos : Nat → Nat} {l : Nat} (hl : l < 4) {ks : List Nat}
    (h : ∀ k ∈ ks, pos k ≠ l) (z : Word) :
    laneByte (ks.foldl (fun acc k => acc ||| onLane (b k) (pos k)) z) l = laneByte z l := by
  induction ks generalizing z with
  | nil => rfl
  | cons k ks ih =>
    rw [List.foldl_cons, ih (fun j hj => h j (List.mem_cons_of_mem k hj)), laneByte_or, laneByte_onLane _ hl,
      if_neg (h k List.mem_cons_self), BitVec.or_zero]

/-- The one byte that stands on a lane is the one read off it. -/
theorem laneByte_foldl_of_unique {b : Nat → Byte} {pos : Nat → Nat} {l i : Nat} (hl : l < 4) {ks : List Nat}
    (nodup : ks.Nodup) (hi : i ∈ ks) (hit : pos i = l) (unique : ∀ k ∈ ks, pos k = l → k = i) (z : Word) :
    laneByte (ks.foldl (fun acc k => acc ||| onLane (b k) (pos k)) z) l = laneByte z l ||| b i := by
  induction ks generalizing z with
  | nil => cases hi
  | cons k ks ih =>
    obtain ⟨fresh, nodup⟩ := List.nodup_cons.1 nodup
    by_cases e : k = i
    · subst e
      have others : ∀ j ∈ ks, pos j ≠ l := fun j hj h =>
        fresh (unique j (List.mem_cons_of_mem k hj) h ▸ hj)
      rw [List.foldl_cons, laneByte_foldl_of_none hl others, laneByte_or, laneByte_onLane _ hl, if_pos hit]
    · have off : pos k ≠ l := fun h => e (unique k List.mem_cons_self h)
      have inside : i ∈ ks := (List.mem_cons.1 hi).resolve_left (Ne.symm e)
      rw [List.foldl_cons, ih nodup inside fun j hj => unique j (List.mem_cons_of_mem k hj), laneByte_or,
        laneByte_onLane _ hl, if_neg off, BitVec.or_zero]

/-- Two bytes of a beat stand on different lanes. -/
theorem eq_of_lane_eq {x n k j : Nat} (hk : k < n) (hj : j < n) (h : (x + k) % n = (x + j) % n) : k = j := by
  have same : k ≡ j [MOD n] := Nat.ModEq.add_left_cancel' x h
  rwa [Nat.ModEq, Nat.mod_eq_of_lt hk, Nat.mod_eq_of_lt hj] at same

theorem beatWrite_lane (a : Resolved) (w : Width) (n : Nat) {k : Nat} (hk : k < beatBytes a.form w) :
    laneByte (beatWrite a w n) ((beatLow a w n + k) % w.bytes) = a.wdata.getD (n * beatBytes a.form w + k) 0#8 := by
  have inside {j : Nat} (hj : j < beatBytes a.form w) : j < w.bytes := hj.trans_le (beatBytes_le ..)
  have lane : (beatLow a w n + k) % w.bytes < 4 := (Nat.mod_lt _ w.bytes_pos).trans_le w.bytes_le
  have unique : ∀ j ∈ List.range (beatBytes a.form w),
      (beatLow a w n + j) % w.bytes = (beatLow a w n + k) % w.bytes → j = k := fun j hj =>
    eq_of_lane_eq (inside (List.mem_range.1 hj)) (inside hk)
  rw [beatWrite, laneByte_foldl_of_unique (pos := fun k => (beatLow a w n + k) % w.bytes)
    (b := fun k => a.wdata.getD (n * beatBytes a.form w + k) 0#8) lane List.nodup_range (List.mem_range.2 hk) rfl unique]
  simp [laneByte]

theorem beatWrite_lane_of_none (a : Resolved) (w : Width) (n : Nat) {l : Nat} (hl : l < 4)
    (h : ∀ k < beatBytes a.form w, (beatLow a w n + k) % w.bytes ≠ l) : laneByte (beatWrite a w n) l = 0#8 := by
  rw [beatWrite, laneByte_foldl_of_none (pos := fun k => (beatLow a w n + k) % w.bytes)
    (b := fun k => a.wdata.getD (n * beatBytes a.form w + k) 0#8) hl fun k hk => h k (List.mem_range.1 hk)]
  simp [laneByte]

theorem getLsbD_foldl_or {n : Nat} (f : Nat → BitVec n) (ks : List Nat) (z : BitVec n) (l : Nat) :
    (ks.foldl (fun acc k => acc ||| f k) z).getLsbD l = true ↔
      z.getLsbD l = true ∨ ∃ k ∈ ks, (f k).getLsbD l = true := by
  induction ks generalizing z with
  | nil => simp
  | cons k ks ih => rw [List.foldl_cons, ih, BitVec.getLsbD_or, Bool.or_eq_true, or_assoc]; simp

theorem beatLanes_iff (a : Resolved) (w : Width) (n : Nat) {l : Nat} (hl : l < 4) :
    (beatLanes a w n).getLsbD l = true ↔
      if a.kind = .write then ∃ k < beatBytes a.form w, (beatLow a w n + k) % w.bytes = l else l < w.bytes := by
  have one (j : Nat) : (1#4 <<< j).getLsbD l = true ↔ j = l := by
    rw [BitVec.getLsbD_shiftLeft, BitVec.getLsbD_one]
    simp [hl]
    omega
  unfold beatLanes
  split
  case isTrue =>
    rw [getLsbD_foldl_or fun k => 1#4 <<< ((beatLow a w n + k) % w.bytes)]
    simp only [one, List.mem_range, BitVec.getLsbD_zero, Bool.false_eq_true, false_or]
  case isFalse => cases w <;> interval_cases l <;> decide

theorem Width.bytes_eq (w : Width) :
    w.bytes = match w with
      | .w8 => 1
      | .w16 => 2
      | .w32 => 4 := by cases w <;> rfl

theorem beatBytes_eq (f : Form) (w : Width) :
    beatBytes f w = match f with
      | .single1 => 1
      | .single2 => min 2 w.bytes
      | _ => w.bytes := by cases f <;> cases w <;> rfl

theorem beatRead_beatWrite (a : Resolved) (w : Width) (n : Nat) :
    beatRead a w n (beatWrite a w n) =
      (List.range (beatBytes a.form w)).map fun k => a.wdata.getD (n * beatBytes a.form w + k) 0#8 :=
  List.map_congr_left fun _ hk => beatWrite_lane a w n (List.mem_range.1 hk)

/-- The lanes that a width does not use are low outside a beat, and all of them where a device reset dropped them. -/
theorem restLanes_low {p : TargetPort} {l : Fin 4} (h : p.lanesDropped = true ∨ p.laneWidth.bytes ≤ l.val) :
    p.restLanes[l] = .low := by
  rw [TargetPort.restLanes_get, if_pos (by simpa using h)]

theorem laneWidth_eq (p : TargetPort) : p.laneWidth = (p.captured.map Captured.width).getD p.settings.width := by
  unfold TargetPort.laneWidth
  cases p.captured <;> rfl

/-- Settles O16: lanes, data and pins of a beat, and the pins at rest. -/
theorem beatsDriveTheLanesOfTheirBytes : Obligations.BeatsDriveTheLanesOfTheirBytes := by
  refine ⟨rfl, fun a w n => ?_, fun p => ⟨fun rest => ?_, fun r c beat running captured => ?_⟩⟩
  · intro lanes per x
    have hlanes : lanes = w.bytes := w.bytes_eq.symm
    have hper : per = beatBytes a.form w := (beatBytes_eq a.form w).symm ▸ w.bytes_eq ▸ rfl
    have hx (k : Nat) : x k = beatLow a w n + k := by rw [beatLow, ← hper]
    clear_value x per lanes
    subst hlanes hper
    simp only [hx]
    refine ⟨?_, fun l hl => beatLanes_iff a w n hl, fun k hk => beatWrite_lane a w n hk, fun l hl none =>
      beatWrite_lane_of_none a w n hl none, fun data => rfl, beatRead_beatWrite a w n⟩
    exact Nat.div_mul_self_eq_mod_sub_self
  · rw [TargetPort.drive_of_phase rest]
    refine ⟨rfl, rfl, fun dropped l => restLanes_low (.inl dropped), fun l unused => restLanes_low (.inr ?_)⟩
    rw [laneWidth_eq]
    exact unused
  · rw [TargetPort.drive_of_beat beat running captured]
    refine ⟨rfl, fun write => if_pos write, fun l => ?_, ?_, ?_⟩
    · simp [beatPins, Level.ofBool]
    · cases h : r.access.kind <;> simp [beatPins, h]
    · cases h : r.access.kind <;> simp [beatPins, h]

end

end Sys2Proof.Machine
end

section
/-! Beat timing (R54, R55): the cycles of a beat and of a recovery counted out. -/

namespace Sys2Proof.Machine

open Sys2Proof.Safety

section
variable {s u : State} {t : Target} {c : Captured}

/-! ### Counting cycles -/

/-- The state once a port has counted `n` cycles. -/
def State.counted (s : State) (t : Target) (n : Nat) : State := s.setTarget t { s.target t with count := n }

@[simp] theorem counted_target (s : State) (t : Target) (n : Nat) :
    (s.counted t n).target t = { s.target t with count := n } := by simp [State.counted]

@[simp] theorem counted_setTarget (s : State) (t : Target) (n : Nat) (p : TargetPort) :
    (s.counted t n).setTarget t p = s.setTarget t p := State.setTarget_setTarget ..

theorem counted_counted (s : State) (t : Target) (n k : Nat) : (s.counted t n).counted t k = s.counted t k := by
  rw [State.counted, counted_target, counted_setTarget]
  rfl

theorem counted_zero (h : (s.target t).count = 0) : s.counted t 0 = s := by
  rw [State.counted, ← h]
  exact State.setTarget_self ..

/-- Cycles that each only count. -/
theorem targetCycle_iterate {k : Nat} (h0 : (s.target t).count = 0)
    (h : ∀ n, n + 1 < k → targetCycle t (s.counted t n) = s.counted t (n + 1)) {n : Nat} (hn : n < k) :
    (targetCycle t)^[n] s = s.counted t n := by
  induction n with
  | zero => exact (counted_zero h0).symm
  | succ n ih => rw [Function.iterate_succ_apply', ih (by omega), h n hn]

/-- Cycles of which all but the last only count. -/
theorem targetCycle_iterate_last {k : Nat} (h0 : (s.target t).count = 0) (hk : 1 ≤ k)
    (h : ∀ n, n + 1 < k → targetCycle t (s.counted t n) = s.counted t (n + 1)) :
    (targetCycle t)^[k] s = targetCycle t (s.counted t (k - 1)) := by
  obtain ⟨n, rfl⟩ : ∃ n, k = n + 1 := ⟨k - 1, by omega⟩
  rw [Function.iterate_succ_apply', targetCycle_iterate h0 h (Nat.lt_succ_self n)]
  rfl

/-! ### The end of a beat leaves the port in recovery -/

theorem endBeat_target {r : Running} (running : (s.target t).running = some r) (captured : (s.target t).captured = some c)
    (error : Bool) (data : Word) :
    ((endBeat t error data s).target t).phase = .recovery ∧ ((endBeat t error data s).target t).captured = some c := by
  unfold endBeat
  simp only [running, captured]
  split_ifs <;> simp [TargetPort.beginRecovery, captured, endFaulted_target, endOk_target]

/-- The target port after the response timer has expired. -/
theorem responseTimerExpires_target {r : Running} (running : (s.target t).running = some r) (g : Target) :
    (responseTimerExpires t s).target g =
      if g = t then
        { (s.target t).beginRecovery with running := none, state := .failed, queue := [] }
      else s.target g := by
  unfold responseTimerExpires
  simp only [running]
  rw [raiseNotice, State.target_setMaster, answerDown_target]
  split
  case isTrue => simp [endFaulted_target]
  case isFalse e => simp [e, endFaulted_target]

/-- A port left in recovery ends it at once where the recovery captured is 0. -/
theorem skipRecovery_eq (phase : (u.target t).phase = .recovery) (captured : (u.target t).captured = some c) :
    skipRecovery t u = if c.recovery = 0 then recoveryEnds t u else u := by
  split
  case isTrue h => exact skipRecovery_of_zero phase captured h
  case isFalse h => exact skipRecovery_of_pos captured h

theorem endBeat_counted {r : Running} (running : (s.target t).running = some r)
    (captured : (s.target t).captured = some c) (n : Nat) (error : Bool) (data : Word) :
    endBeat t error data (s.counted t n) = endBeat t error data s := by
  simp only [endBeat, counted_target, running, captured, counted_setTarget, TargetPort.beginRecovery]

theorem responseTimerExpires_counted {r : Running} (running : (s.target t).running = some r) (n : Nat) :
    responseTimerExpires t (s.counted t n) = responseTimerExpires t s := by
  simp only [responseTimerExpires, counted_target, running, counted_setTarget, TargetPort.beginRecovery]

theorem recoveryEnds_counted (s : State) (t : Target) (n : Nat) : recoveryEnds t (s.counted t n) = recoveryEnds t s := by
  simp only [recoveryEnds_eq, counted_target, counted_setTarget]

/-! ### Cycles of a beat and of a recovery -/

theorem beatCycle_of_wait (waiting : (s.target t).waitDone = false) :
    beatCycle t c s =
      if c.wait ≤ (s.target t).count + 1 then waitCountEnds t s else s.counted t ((s.target t).count + 1) := by
  rw [beatCycle, if_neg (by simp [waiting])]
  rfl

theorem beatCycle_of_hold (held : (s.target t).waitDone = true) :
    beatCycle t c s =
      if c.limit ≤ (s.target t).count + 1 then responseTimerExpires t s
      else if (s.target t).lines.ready = true then endBeat t (s.target t).lines.error (s.target t).lines.data s
      else s.counted t ((s.target t).count + 1) := by
  rw [beatCycle, if_pos held]
  rfl

theorem skipRecovery_counted (phase : (s.target t).phase = .beat) (n : Nat) :
    skipRecovery t (s.counted t n) = s.counted t n :=
  skipRecovery_of_phase (by simp [phase])

section
variable (phase : (s.target t).phase = .beat) (captured : (s.target t).captured = some c)
include phase captured

theorem targetCycle_counted (n : Nat) :
    targetCycle t (s.counted t n) = skipRecovery t (beatCycle t c (s.counted t n)) :=
  targetCycle_of_beat (by simp [phase]) (by simp [captured])

/-- A cycle within the wait count. -/
theorem targetCycle_of_wait (waiting : (s.target t).waitDone = false) {n : Nat} (h : n + 1 < c.wait) :
    targetCycle t (s.counted t n) = s.counted t (n + 1) := by
  rw [targetCycle_counted phase captured, beatCycle_of_wait (by simpa using waiting), counted_target,
    if_neg (Nat.not_le.2 h), counted_counted, skipRecovery_counted phase]

/-- The last cycle of the wait count. -/
theorem targetCycle_of_wait_last {r : Running} (running : (s.target t).running = some r)
    (waiting : (s.target t).waitDone = false) (h : 1 ≤ c.wait) :
    targetCycle t (s.counted t (c.wait - 1)) = skipRecovery t (waitCountEnds t s) := by
  have ends : waitCountEnds t (s.counted t (c.wait - 1)) = waitCountEnds t s := by
    simp only [waitCountEnds, counted_target, counted_setTarget, endBeat_counted running captured]
  rw [targetCycle_counted phase captured, beatCycle_of_wait (by simpa using waiting), counted_target,
    if_pos (Nat.sub_add_cancel h).ge, ends]

/-- A cycle in which ready stays low below the response limit. -/
theorem targetCycle_of_hold (held : (s.target t).waitDone = true) (low : (s.target t).lines.ready = false) {n : Nat}
    (h : n + 1 < c.limit) : targetCycle t (s.counted t n) = s.counted t (n + 1) := by
  rw [targetCycle_counted phase captured, beatCycle_of_hold (by simpa using held), counted_target,
    if_neg (Nat.not_le.2 h), if_neg (by simp [low]), counted_counted, skipRecovery_counted phase]

/-- The cycle at the response limit. -/
theorem targetCycle_of_limit {r : Running} (running : (s.target t).running = some r)
    (held : (s.target t).waitDone = true) (h : 1 ≤ c.limit) :
    targetCycle t (s.counted t (c.limit - 1)) = skipRecovery t (responseTimerExpires t s) := by
  rw [targetCycle_counted phase captured, beatCycle_of_hold (by simpa using held), counted_target,
    if_pos (Nat.sub_add_cancel h).ge, responseTimerExpires_counted running]

end

/-- Cycles of a recovery of at least one cycle. -/
theorem targetCycle_of_recovering (phase : (s.target t).phase = .recovery) (captured : (s.target t).captured = some c)
    (h : c.recovery ≠ 0) (n : Nat) :
    targetCycle t (s.counted t n) = if c.recovery ≤ n + 1 then recoveryEnds t s else s.counted t (n + 1) := by
  rw [targetCycle_of_recovery (by simpa using phase) (by simpa using captured) h, recoveryEnds_counted, counted_target]
  exact if_congr Iff.rfl rfl (by rw [counted_setTarget]; rfl)

theorem endBeat_recovers {r : Running} (running : (s.target t).running = some r)
    (captured : (s.target t).captured = some c) (error : Bool) (data : Word) :
    skipRecovery t (endBeat t error data s) =
      if c.recovery = 0 then recoveryEnds t (endBeat t error data s) else endBeat t error data s := by
  obtain ⟨phase, kept⟩ := endBeat_target running captured error data
  exact skipRecovery_eq phase kept

theorem responseTimerExpires_recovers {r : Running} (running : (s.target t).running = some r)
    (captured : (s.target t).captured = some c) :
    skipRecovery t (responseTimerExpires t s) =
      if c.recovery = 0 then recoveryEnds t (responseTimerExpires t s) else responseTimerExpires t s := by
  have port := responseTimerExpires_target running t
  rw [if_pos rfl] at port
  exact skipRecovery_eq (by rw [port]; rfl) (by rw [port]; exact captured)

/-- A recovery of 0 cycles ends before the cycle. -/
theorem targetCycle_of_recovered (phase : (s.target t).phase = .recovery) (captured : (s.target t).captured = some c)
    (h : c.recovery = 0) : targetCycle t s = targetCycle t (recoveryEnds t s) := by
  rw [targetCycle, targetCycle, skipRecovery_of_zero phase captured h,
    skipRecovery_of_phase (recoveryEnds_phase t s)]

theorem setLines_self (t : Target) (s : State) : setLines t (s.target t).lines s = s := State.setTarget_self ..

/-- Settles O17: the cycles of a beat and of a recovery, each up to its last. -/
theorem beatTimingByFabricCycles : Obligations.BeatTimingByFabricCycles := by
  refine ⟨fun t s r c phase running captured zero => ?_, fun t s c phase captured zero => ?_⟩
  · intro recovered
    have recovers (u : State) : recovered u = if c.recovery = 0 then recoveryEnds t u else u := by
      rw [recoveryEnds_eq] <;> rfl
    have sampled (ready : Bool) (h : (s.target t).lines.ready = ready) :
        setLines t { ready := ready, error := (s.target t).lines.error, data := (s.target t).lines.data } s = s := by
      rw [← h]
      exact setLines_self t s
    refine ⟨fun waiting positive => ⟨fun n => ?_, fun ready => ⟨?_, ?_⟩, fun low => ?_⟩, fun held limit =>
      ⟨fun ready => ⟨?_, ?_⟩, fun low => ⟨fun n => ?_, ?_, ?_⟩⟩⟩
    · exact targetCycle_iterate zero fun n => targetCycle_of_wait phase captured waiting
    · rw [exec, execWaitCountEnd, if_pos (by simp [TargetPort.inWait, phase, waiting]), sampled true ready, waitCountEnds,
        if_pos ready]
    · rw [targetCycle_iterate_last zero positive fun n => targetCycle_of_wait phase captured waiting,
        targetCycle_of_wait_last phase captured running waiting positive, waitCountEnds, if_pos ready, recovers,
        endBeat_recovers running captured]
    · rw [targetCycle_iterate_last zero positive fun n => targetCycle_of_wait phase captured waiting,
        targetCycle_of_wait_last phase captured running waiting positive, waitCountEnds, if_neg (by simp [low]),
        skipRecovery_of_phase (by simp [phase])]
    · rw [exec, execBeatEnd, if_pos (by simp [TargetPort.inHold, phase, held]), sampled true ready]
    · rw [targetCycle_of_beat phase captured, beatCycle_of_hold held, zero, if_neg (by omega), if_pos ready, recovers,
        endBeat_recovers running captured]
    · exact targetCycle_iterate zero fun n => targetCycle_of_hold phase captured held low
    · rw [exec, execResponseTimerExpiry, if_pos (by simp [TargetPort.inHold, phase, held]), sampled false low]
    · rw [targetCycle_iterate_last zero (by omega) fun n => targetCycle_of_hold phase captured held low,
        targetCycle_of_limit phase captured running held (by omega), recovers,
        responseTimerExpires_recovers running captured]
  · intro after
    have ends : recoveryEnds t s = after := recoveryEnds_eq t s
    refine ⟨fun positive => ?_, fun none => ⟨fun last => ?_, fun more => ?_⟩⟩
    · have cycle := targetCycle_of_recovering phase captured (Nat.one_le_iff_ne_zero.1 positive)
      have counts (n : Nat) (h : n + 1 < c.recovery) : targetCycle t (s.counted t n) = s.counted t (n + 1) := by
        rw [cycle, if_neg (Nat.not_le.2 h)]
      refine ⟨fun n => targetCycle_iterate zero counts, ?_⟩
      rw [targetCycle_iterate_last zero positive counts, cycle, if_pos (Nat.sub_add_cancel positive).ge, ends]
    · rw [targetCycle_of_recovered phase captured none, ends]
      refine targetCycle_of_idle ?_
      simp [after, last]
    · rw [targetCycle_of_recovered phase captured none, ends]

end

end Sys2Proof.Machine
end

section
/-! The command unit (chapter 4): what the taking of an aperture access comes to, and which mailbox the engine grants. -/

namespace Sys2Proof.Machine

open Sys2Proof.Safety

variable {s : State} {m : Master} {r : Request} {rest : List Request}

/-! ### The answer to an aperture access (R67) -/

/-- The head of an aperture list is taken and its response joins the list of its port. -/
def State.served (s : State) (m : Master) (r : Request) (rest : List Request) (code : RespCode) (data : ReadData) :
    State :=
  s.setPort m
    { s.port m with
      aperture := rest, responses := (s.port m).responses ++ [{ tag := r.tag, code := code, data := data }] }

@[simp] theorem popAperture_port_self (m : Master) (rest : List Request) (s : State) :
    (popAperture m rest s).port m = { s.port m with aperture := rest } := by
  simp [popAperture]

theorem answer_popAperture (kept : (s.port m).tags[r.tag] ≠ .inUse true) (code : RespCode) (data : ReadData) :
    answer m { tag := r.tag, code := code, data := data } none (popAperture m rest s) =
      s.served m r rest code data := by
  rw [answer_none_of_kept (by rw [popAperture_port_self]; exact kept), popAperture_port_self]
  simp [popAperture, State.served]

theorem acknowledge_popAperture (kept : (s.port m).tags[r.tag] ≠ .inUse true) :
    acknowledge m r (popAperture m rest s) = s.served m r rest .ok .zero :=
  answer_popAperture kept ..

/-- The mailbox takes no part in an acknowledgement. -/
theorem acknowledge_setMailbox (m : Master) (r : Request) (b : Mailbox) (s : State) :
    acknowledge m r (s.setMailbox m b) = (acknowledge m r s).setMailbox m b :=
  answer_setMailbox ..

/-- A refused aperture access enters its report and changes nothing of its master's state: the kinds of the aperture do
not hold (R138). -/
theorem refuseAperture_popAperture (kept : (s.port m).tags[r.tag] ≠ .inUse true) {k : FaultKind}
    (mild : k.holds = false) :
    refuseAperture m r k (popAperture m rest s) =
      (s.served m r rest (.fault k) .zero).setMaster m
        { s.master m with
          faultRecord := some (enterRecord (s.master m).faultRecord (apertureReport r k))
          notices := insertNotice faultNotice (s.master m).notices } := by
  rw [refuseAperture, answer_some_of_kept (by rw [popAperture_port_self]; exact kept), popAperture_port_self]
  simp [enterReport, popAperture, State.served, apertureReport, mild]

/-! ### The rows (R67, R70 to R72) -/

theorem exec_parameterWrite (head : (s.port m).aperture = r :: rest) {n : Fin 4} {w : Word}
    (action : apertureAction r = some (.writeParam n w)) :
    exec (.parameterWrite m) s =
      .next (acknowledge m r
        ((popAperture m rest s).setMailbox m { s.mailbox m with live := (s.mailbox m).live.set n w })) := by
  simp only [exec, execParameterWrite, head, action]

theorem exec_commandSubmission (head : (s.port m).aperture = r :: rest) {w : Word}
    (action : apertureAction r = some (.submit w)) :
    exec (.commandSubmission m) s = .next (submitCommand m r w (popAperture m rest s)) := by
  simp only [exec, execCommandSubmission, head, action]

theorem exec_apertureAccessTaking (head : (s.port m).aperture = r :: rest) {w : ApertureWord}
    (action : apertureAction r = some (.read w)) (kept : (s.port m).tags[r.tag] ≠ .inUse true) :
    exec (.apertureAccessTaking m) s = .next (s.served m r rest .ok (.words [readWord s m w])) := by
  simp only [exec, execApertureAccessTaking, head, action, answer_popAperture kept]

/-- A malformed access is refused by whichever row takes it (log 13). -/
theorem exec_of_malformed (head : (s.port m).aperture = r :: rest) (action : apertureAction r = none) :
    ∀ c ∈ [Instr.parameterWrite m, .commandSubmission m, .apertureAccessTaking m],
      exec c s = .next (refuseAperture m r .apertureFormat (popAperture m rest s)) := by
  simp only [List.forall_mem_cons, exec, execParameterWrite, execCommandSubmission, execApertureAccessTaking, head,
    action, true_and]
  simp

/-! ### Parameter writes and reads -/

theorem wordAt_param (n : Fin 4) : wordAt (4 + 4 * n.val) = some (.param n) := by
  fin_cases n <;> rfl

theorem wordAt_result (n : Fin 3) : wordAt (0x24 + 4 * n.val) = some (.result n) := by
  fin_cases n <;> rfl

theorem apertureAction_read_of_addr (kind : r.kind = 0#2) (size : r.size = 2#3) {k : Nat} {w : ApertureWord}
    (addr : r.addr.toNat = 0xFFF0000 + k) (aligned : k % 4 = 0) (word : wordAt k = some w) :
    apertureAction r = directed .read w (r.wdata.getD 0 0#32) :=
  apertureAction_read kind size (by omega) (by rw [wordAt_of_addr addr, word])

theorem apertureAction_write_of_addr (kind : r.kind = 1#2) (size : r.size = 2#3) {k : Nat} {w : ApertureWord} {d : Word}
    (addr : r.addr.toNat = 0xFFF0000 + k) (aligned : k % 4 = 0) (word : wordAt k = some w) (data : r.wdata = [d]) :
    apertureAction r = directed .write w d := by
  rw [apertureAction_write kind size (by omega) (by rw [wordAt_of_addr addr, word]), data]
  rfl

theorem identificationWord_eq : ∀ m : Master, identificationWord m = 0x06322010#32 ||| BitVec.ofNat 32 m.val := by
  decide

/-- Settles O18: the word at the address decides what a write and a read do. -/
theorem parameterWritesAndApertureReads : Obligations.ParameterWritesAndApertureReads := by
  intro m r rest s head kept size answered
  refine ⟨fun n w kind addr data => ?write, fun kind => ⟨fun n addr => ?param, fun addr => ?status, fun n addr => ?result,
    fun addr => ?identification⟩⟩
  case write =>
    rw [exec_parameterWrite head
        (apertureAction_write_of_addr (k := 4 + 4 * n) kind size (by omega) (by omega) (wordAt_param n) data),
      acknowledge_setMailbox, acknowledge_popAperture kept]
    rfl
  case param =>
    exact exec_apertureAccessTaking head
      (apertureAction_read_of_addr (k := 4 + 4 * n) kind size (by omega) (by omega) (wordAt_param n)) kept
  case status =>
    exact exec_apertureAccessTaking (w := .status) head
      (apertureAction_read_of_addr (k := 0x20) kind size addr rfl rfl) kept
  case result =>
    exact exec_apertureAccessTaking head
      (apertureAction_read_of_addr (k := 0x24 + 4 * n) kind size (by omega) (by omega) (wordAt_result n)) kept
  case identification =>
    rw [← identificationWord_eq]
    exact exec_apertureAccessTaking (w := .identification) head
      (apertureAction_read_of_addr (k := 0x40) kind size addr rfl rfl) kept

/-! ### Submissions -/

theorem ofCode_low_byte_eq (w : Word) : (w.extractLsb' 0 8).toNat = w.toNat % 256 := by simp

theorem ofCode_eq_readFault {n : Nat} : CmdId.ofCode n = some .readFault ↔ n = 16 := by
  unfold CmdId.ofCode
  split <;> simp_all

theorem ofCode_eq_queryMaster {n : Nat} : CmdId.ofCode n = some .queryMaster ↔ n = 23 := by
  unfold CmdId.ofCode
  split <;> simp_all

theorem servedOffline_iff {c : BitVec 8} {p : Params} :
    servedOffline m c p = true ↔ c.toNat = 16 ∨ (c.toNat = 23 ∧ p.p0 = BitVec.ofNat 32 m.val) := by
  simp only [servedOffline, Bool.or_eq_true, Bool.and_eq_true, beq_iff_eq, ofCode_eq_readFault, ofCode_eq_queryMaster]

/-- Settles O19: what a submission finds in the mailbox decides between capture and MAILBOX_BUSY. -/
theorem submissionCapturesOrIsBusy : Obligations.SubmissionCapturesOrIsBusy := by
  intro m r rest w s head kept kind size addr data answered served refused
  have action : apertureAction r = some (.submit w) :=
    apertureAction_write_of_addr (k := 0) kind size addr rfl rfl data
  rw [exec_commandSubmission head action]
  refine ⟨fun open_ => ?_, fun busy => ?_⟩
  · have served_iff : refused ↔
        ((s.master m).state == .offline && !servedOffline m (w.extractLsb' 0 8) (s.mailbox m).live) = true := by
      simp only [Bool.and_eq_true, beq_iff_eq, Bool.not_eq_true', ← Bool.not_eq_true, servedOffline_iff,
        ofCode_low_byte_eq]
      rfl
    have captured : submitCommand m r w (popAperture m rest s) =
        acknowledge m r ((popAperture m rest s).setMailbox m
          (submitted m (s.master m).state (s.mailbox m) w)) := by
      obtain h | h := open_ <;> simp [submitCommand, popAperture, h]
    rw [captured, acknowledge_setMailbox, acknowledge_popAperture kept]
    congr 2
    rw [submitted]
    by_cases h : refused
    · simp only [if_pos h, if_pos (served_iff.1 h)]
      rfl
    · simp only [if_neg h, if_neg (mt served_iff.2 h)]
      rfl
  · have refusal : submitCommand m r w (popAperture m rest s) =
        refuseAperture m r .mailboxBusy (popAperture m rest s) := by
      obtain h | h := busy <;> simp [submitCommand, popAperture, h]
    rw [refusal, refuseAperture_popAperture kept rfl]
    simp only [apertureReport, reqKind, reqForm, kind, size]
    rfl

/-! ### Malformed accesses -/

/-- A read of the command word and a write of a word that is only read ask for nothing. -/
theorem apertureAction_of_bad_direction
    (h : (r.kind = 0#2 ∧ r.addr.toNat = 0xFFF0000) ∨
      (r.kind = 1#2 ∧ r.addr.toNat - 0xFFF0000 ∈ [0x20, 0x24, 0x28, 0x2C, 0x40])) : apertureAction r = none := by
  by_cases good : r.size = 2#3 ∧ r.addr.toNat % 4 = 0
  · obtain ⟨size, aligned⟩ := good
    obtain ⟨kind, addr⟩ | ⟨kind, offset⟩ := h
    · rw [apertureAction_read_of_addr (k := 0) kind size addr rfl rfl]
      rfl
    · have read_only : ∃ w, wordAt (r.addr.toNat - 0xFFF0000) = some w ∧ ∀ d, directed .write w d = none := by
        simp only [List.mem_cons, List.not_mem_nil, or_false] at offset
        obtain h | h | h | h | h := offset <;> rw [h] <;> exact ⟨_, rfl, fun _ => rfl⟩
      obtain ⟨w, word, none⟩ := read_only
      rw [apertureAction_write kind size aligned word, none]
  · exact apertureAction_of_bad_form (not_and_or.1 good)

/-- Settles O20: whichever check of R67 fails, the access asks for nothing. -/
theorem malformedApertureAccessIsAFormatFault : Obligations.MalformedApertureAccessIsAFormatFault := by
  intro m r rest s head kept inside bad c hc
  have action : apertureAction r = none := by
    obtain ⟨h0, h1⟩ | size | aligned | offset | direction := bad
    · exact apertureAction_of_bad_kind h0 h1
    · exact apertureAction_of_bad_form (.inl size)
    · exact apertureAction_of_bad_form (.inr aligned)
    · exact apertureAction_of_bad_offset (Option.not_isSome_iff_eq_none.1 (mt wordAt_isSome.1 offset))
    · exact apertureAction_of_bad_direction direction
  rw [exec_of_malformed head action c hc, refuseAperture_popAperture kept rfl]
  rfl

/-! ### The engine (R74) -/

/-- Settles O21: an IDLE engine takes the first SUBMITTED mailbox in turn. -/
theorem grantTakesTheFirstSubmittedMailbox : Obligations.GrantTakesTheFirstSubmittedMailbox := by
  refine fun s m => ⟨fun idle first => ?_, fun busy => ?_⟩
  · have turn : nextInTurn s.engine.pointer (fun n => (s.mailbox n).state == .submitted) = some m :=
      nextInTurn_of_firstAfter (fun n => by simp) first
    simp only [exec, execEngineGrant, idle, turn]
  · obtain ⟨x, hx⟩ := Option.isSome_iff_exists.1 busy
    simp only [exec, execEngineGrant, hx]

end Sys2Proof.Machine
end

section
/-! The completion of a command (R75, R77, R78): every command is a list of checks and the effect it has when all of
them pass, and its completion is decided by the first check that fails. -/

namespace Sys2Proof.Machine

open Sys2Proof.Safety

variable {s : State} {x : Execution} {id : CmdId}

/-! ### The checks and the effect of each command -/

/-- The checks of a command, in order. -/
def commandChecks (id : CmdId) (m : Master) (p : Params) (s : State) : List (Bool × ResultCode) :=
  match id with
  | .claim => claimChecks m p s
  | .claimCommon => claimCommonChecks m p s
  | .extend => extendChecks m p s
  | .release => releaseChecks m p s
  | .revoke => revokeChecks m p s
  | .setMembers => setMembersChecks m p s
  | .query => queryChecks m p s
  | .queryAddress => [(queryAddressInRange p, .badParam)]
  | .findHeld => [(fromSlotInRange p, .badParam)]
  | .renew => renewChecks m p s
  | .setLeaseClock => [supervisorCheck m, (leaseClockInRange p, .badParam)]
  | .offer => offerChecks m p s
  | .withdraw => withdrawChecks m p s
  | .accept => acceptChecks m p s
  | .decline => declineChecks m p s
  | .readFault => []
  | .clearFault => []
  | .releaseHold => releaseHoldChecks m p s
  | .takeNotice => []
  | .setNoticeOrder => [(noticeOrderInRange p, .badParam)]
  | .setNoticeEnable => [(noticeEnableInRange p, .badParam)]
  | .setMaster => [supervisorCheck m, (setMasterInRange p, .badParam)]
  | .queryMaster => queryMasterChecks m p
  | .detach => detachChecks m p s
  | .attach => attachChecks m p s
  | .setTarget => setTargetChecks m p s
  | .targetOnline =>
    [supervisorCheck m, (targetInRange p.p0, .badParam), ((s.target (targetParam p.p0)).state != .online, .wrongState)]
  | .targetOffline =>
    [supervisorCheck m, (targetInRange p.p0, .badParam), ((s.target (targetParam p.p0)).state != .offline, .wrongState)]
  | .queryTarget => [(targetInRange p.p0, .badParam)]

/-- What a command comes to when every check passes. -/
def commandEffect (id : CmdId) (m : Master) (p : Params) (s : State) : Completion :=
  let h := handleOf p.p0
  let w := s.window h.slot
  let n := masterParam p.p0
  let t := targetParam p.p0
  match id with
  | .claim => claimSlot .priv m none p s
  | .claimCommon => claimSlot .common 0 (some (claimMembers p)) p s
  | .extend =>
    { state := s.setWindow h.slot { w with length := w.length + extendPages p }
      code := .done
      words := words2 (handleWord h) (field 16 0 (w.length + extendPages p)) }
  | .release => retireByCommand .release h s
  | .revoke => retireByCommand .revoke h s
  | .setMembers => membersReplaced h (membersParam p) s
  | .query => { state := s, code := .done, words := queryWords h.slot w (bits p.p1 0 0) }
  | .queryAddress =>
    { state := s
      code := .done
      words := decisionWords s (addressParam p) (decideAccess s m (pageOf (addressParam p)) (queryKind p)) }
  | .findHeld =>
    match s.firstHeld m (bits p.p0 4 0) with
    | none => { state := s, code := .empty, words := zeroWords }
    | some i =>
      { state := s
        code := .done
        words := words2 (handleWord (s.handle i))
          (field 3 0 (s.window i).state.code ||| field 1 3 (s.window i).layer.code) }
  | .renew => renewEffect h s
  | .setLeaseClock =>
    { state := { s with timer := newTimer p }
      code := .done
      words := words2 (field 12 0 s.timer.divider) (field 8 0 s.timer.margin ||| field 8 8 s.timer.grace) }
  | .offer =>
    { state := raiseNotice (recipientParam p) (slotNotice .offerReceived h.slot w.gen)
        (s.setWindow h.slot
          { w with state := .offered, offer := some { recipient := recipientParam p, ticks := offerTicks p } })
      code := .done
      words := words2 (handleWord h) (field 3 0 (recipientParam p).val ||| field 8 8 (offerTicks p)) }
  | .withdraw =>
    { state := reactivate h.slot (withdrawOffer h.slot s), code := .done
      words := words2 (handleWord h) (offerWord w.offer) }
  | .accept =>
    { state := raiseNotice w.holder (slotNotice .offerAccepted h.slot w.gen)
        (removeNotice m .offerReceived h.slot (s.setWindow h.slot (acceptedWindow m w)))
      code := .done
      words :=
        { w0 := handleWord { slot := h.slot, gen := w.gen + 1 }
          w1 := field 3 0 w.holder.val ||| field 4 8 w.gen.toNat
          w2 := field 16 0 (w.leasePeriod.getD 0) } }
  | .decline =>
    { state := declineOffer h.slot s, code := .done, words := words2 (handleWord h) (field 3 0 w.holder.val) }
  | .readFault => readFaultBody m p s
  | .clearFault => clearFaultBody m p s
  | .releaseHold =>
    { state := s.setMaster n { s.master n with state := .online }, code := .done, words := words1 (field 3 0 n.val) }
  | .takeNotice => takeNoticeBody m p s
  | .setNoticeOrder =>
    { state := s.setMaster m { s.master m with order := orderParam p }
      code := .done
      words := words2 (orderWord0 (s.master m).order) (orderWord1 (s.master m).order) }
  | .setNoticeEnable =>
    { state := s.setMaster m { s.master m with enables := enablesParam p }
      code := .done
      words := words1 (field 11 0 (s.master m).enables.toNat) }
  | .setMaster =>
    { state := s.setMaster n
        { s.master n with quota := quotaParam p, policy := policyParam p, disposition := dispositionParam p }
      code := .done
      words := words2 (masterWord (s.master n)) (field 6 0 (s.heldPrivate n)) }
  | .queryMaster => { state := s, code := .done, words := masterWords s n }
  | .detach =>
    { state := detachEffect n s
      code := .done
      words := words2 (field 3 0 n.val)
        (field 6 0 (s.retirableCount n) ||| field 6 8 (s.drainingCount n) ||| field 6 16 (s.offersTo n)) }
  | .attach =>
    { state := s.setMaster n { s.master n with state := .online, notices := [] }
      code := .done
      words := words1 (field 3 0 n.val) }
  | .setTarget =>
    { state := s.setTarget t { s.target t with settings := (settingsParam p).getD (s.target t).settings }
      code := .done
      words := zeroWords }
  | .targetOnline =>
    { state := removeNotice 0 .targetFailed (targetKey t) (s.setTarget t { s.target t with state := .online })
      code := .done
      words := zeroWords }
  | .targetOffline =>
    { state := answerDown t (s.setTarget t { s.target t with state := .offline }), code := .done, words := zeroWords }
  | .queryTarget => { state := s, code := .done, words := targetWords (s.target t) }

/-- The completion row of the command in execution runs its checks and its effect (R75, R77). -/
theorem exec_completion (h : Executing s x id) :
    exec (completion id) s =
      .next (finish x (checked (commandChecks id x.master x.params s) s (commandEffect id x.master x.params s))) := by
  obtain ⟨running, named⟩ := h
  cases id <;> exact congrArg _ (completeCommand_of_executing running named)

/-- When every check passes the command has its effect. -/
theorem exec_completion_of_pass (h : Executing s x id) (pass : ∀ c ∈ commandChecks id x.master x.params s, c.1 = true) :
    exec (completion id) s = .next (finish x (commandEffect id x.master x.params s)) := by
  rw [exec_completion h, checked_of_pass pass]

/-- The first check that fails refuses the command. -/
theorem exec_completion_of_failure (h : Executing s x id) {code : ResultCode}
    (fails : firstFailure (commandChecks id x.master x.params s) = some code) :
    exec (completion id) s = .next (finish x (refusal code s)) := by
  rw [exec_completion h, checked_of_failure fails]

/-! ### Success codes (R78) -/

/-- A claim whose last check passed has a FREE slot to take. -/
theorem claimSlot_code {layer : Layer} {m : Master} {members : Option (BitVec 6)} {p : Params}
    (free : s.lowestFree.isSome = true) : (claimSlot layer m members p s).code = .done := by
  obtain ⟨i, hi⟩ := Option.isSome_iff_exists.1 free
  simp [claimSlot, hi]

/-- A command whose checks all pass completes with a success code. -/
theorem commandEffect_succeeded {m : Master} {p : Params} (pass : ∀ c ∈ commandChecks id m p s, c.1 = true) :
    succeeded (commandEffect id m p s).code := by
  cases id
  case claim =>
    have free := pass (s.lowestFree.isSome, .noSlot) (by simp [commandChecks, claimChecks])
    exact .inl (claimSlot_code free)
  case claimCommon =>
    have free := pass (s.lowestFree.isSome, .noSlot) (by simp [commandChecks, claimCommonChecks])
    exact .inl (claimSlot_code free)
  case release | revoke =>
    simp only [commandEffect, retireByCommand]
    split
    · exact .inl rfl
    · exact .inr (.inr (.inl rfl))
  case findHeld =>
    simp only [commandEffect]
    split
    · exact .inr (.inr (.inr rfl))
    · exact .inl rfl
  case renew =>
    simp only [commandEffect, renewEffect]
    split
    · exact .inr (.inl rfl)
    · exact .inl rfl
  case takeNotice =>
    simp only [commandEffect, takeNoticeBody]
    split
    · exact .inr (.inr (.inr rfl))
    · exact .inl rfl
  all_goals exact .inl rfl

/-- Settles O22: a completion is a refusal, or it is an effect with a success code. -/
theorem refusedCommandChangesNothingElse : Obligations.RefusedCommandChangesNothingElse := by
  refine ⟨fun id x s h => ?completes, fun x s running unnamed => ?badCommand, fun x u code words => ?finish⟩
  case completes =>
    cases fails : firstFailure (commandChecks id x.master x.params s) with
    | some code => exact ⟨s, code, zeroWords, exec_completion_of_failure h fails, fun _ => ⟨rfl, rfl⟩⟩
    | none =>
      have pass := firstFailure_eq_none.1 fails
      exact ⟨_, _, _, exec_completion_of_pass h pass, fun failed => absurd (commandEffect_succeeded pass) failed⟩
  case badCommand =>
    simp only [exec, execBadCommand, running, unnamed, if_true]
    rfl
  case finish => rfl

end Sys2Proof.Machine
end

section
/-! The words of the aperture as numbers (R166 to R170): fields, the bits of a word, masks, handle words and orders. -/

namespace Sys2Proof.Machine

open Sys2Proof.Safety

/-! ### Fields and bits -/

theorem bits_eq (w : Word) (hi lo : Nat) : bits w hi lo = w.toNat / 2 ^ lo % 2 ^ (hi + 1 - lo) := by
  rw [bits, BitVec.extractLsb'_toNat, Nat.shiftRight_eq_div_pow]

theorem bits_low (w : Word) (hi : Nat) : bits w hi 0 = w.toNat % 2 ^ (hi + 1) := by
  rw [bits_eq, pow_zero, Nat.div_one, Nat.sub_zero]

theorem toNat_field {width lo : Nat} (fits : lo + width ≤ 32) (v : Nat) :
    (field width lo v).toNat = v % 2 ^ width * 2 ^ lo := by
  have below : v % 2 ^ width * 2 ^ lo < 2 ^ 32 := by
    calc v % 2 ^ width * 2 ^ lo < 2 ^ width * 2 ^ lo := by
          exact Nat.mul_lt_mul_of_pos_right (Nat.mod_lt _ (by positivity)) (by positivity)
      _ = 2 ^ (lo + width) := by rw [← pow_add, Nat.add_comm]
      _ ≤ 2 ^ 32 := Nat.pow_le_pow_right (by norm_num) fits
  have value : v % 2 ^ width < 2 ^ 32 :=
    (Nat.mod_lt _ (by positivity)).trans_le (Nat.pow_le_pow_right (by norm_num) (by omega))
  rw [field, BitVec.toNat_shiftLeft, BitVec.toNat_setWidth, BitVec.toNat_ofNat, Nat.mod_eq_of_lt value,
    Nat.shiftLeft_eq, Nat.mod_eq_of_lt below]

/-- Words whose bits stand apart add up. -/
theorem toNat_or_of_lt {a b : Word} {n c : Nat} (low : a.toNat < 2 ^ n) (high : b.toNat = c * 2 ^ n) :
    (a ||| b).toNat = a.toNat + b.toNat := by
  rw [BitVec.toNat_or, high, Nat.mul_comm c, Nat.or_comm, ← Nat.two_pow_add_eq_or_of_lt low, Nat.add_comm]

theorem field_toNat_lt {width lo hi : Nat} (fits : lo + width ≤ hi) (inWord : hi ≤ 32) (v : Nat) :
    (field width lo v).toNat < 2 ^ hi := by
  rw [toNat_field (by omega)]
  calc v % 2 ^ width * 2 ^ lo < 2 ^ width * 2 ^ lo :=
        Nat.mul_lt_mul_of_pos_right (Nat.mod_lt _ (by positivity)) (by positivity)
    _ = 2 ^ (lo + width) := by rw [← pow_add, Nat.add_comm]
    _ ≤ 2 ^ hi := Nat.pow_le_pow_right (by norm_num) fits

/-- A field above the bits of a word adds its value. -/
theorem toNat_or_field {a : Word} {width lo : Nat} (low : a.toNat < 2 ^ lo) (fits : lo + width ≤ 32) (v : Nat) :
    (a ||| field width lo v).toNat = a.toNat + v % 2 ^ width * 2 ^ lo := by
  rw [toNat_or_of_lt low (toNat_field fits v), toNat_field fits]

theorem toNat_two_fields {w₁ l₁ w₂ l₂ : Nat} (apart : l₁ + w₁ ≤ l₂) (fits : l₂ + w₂ ≤ 32) (v₁ v₂ : Nat) :
    (field w₁ l₁ v₁ ||| field w₂ l₂ v₂).toNat = v₁ % 2 ^ w₁ * 2 ^ l₁ + v₂ % 2 ^ w₂ * 2 ^ l₂ := by
  rw [toNat_or_field (field_toNat_lt apart (by omega) v₁) fits, toNat_field (by omega)]

theorem toNat_three_fields {w₁ l₁ w₂ l₂ w₃ l₃ : Nat} (apart : l₁ + w₁ ≤ l₂) (apart' : l₂ + w₂ ≤ l₃)
    (fits : l₃ + w₃ ≤ 32) (v₁ v₂ v₃ : Nat) :
    (field w₁ l₁ v₁ ||| field w₂ l₂ v₂ ||| field w₃ l₃ v₃).toNat =
      v₁ % 2 ^ w₁ * 2 ^ l₁ + v₂ % 2 ^ w₂ * 2 ^ l₂ + v₃ % 2 ^ w₃ * 2 ^ l₃ := by
  have low : (field w₁ l₁ v₁ ||| field w₂ l₂ v₂).toNat < 2 ^ l₃ := by
    rw [BitVec.toNat_or]
    exact Nat.or_lt_two_pow (field_toNat_lt (by omega) (by omega) v₁) (field_toNat_lt apart' (by omega) v₂)
  rw [toNat_or_field low fits, toNat_two_fields apart (by omega)]

theorem bits_or (a b : Word) (hi lo : Nat) : bits (a ||| b) hi lo = bits a hi lo ||| bits b hi lo := by
  rw [bits, BitVec.extractLsb'_or, BitVec.toNat_or]
  rfl

/-- The bits of a field where the field stands are its value. -/
theorem bits_field_same {width lo hi : Nat} (here : hi + 1 = lo + width) (fits : lo + width ≤ 32) (v : Nat) :
    bits (field width lo v) hi lo = v % 2 ^ width := by
  rw [bits_eq, toNat_field fits, Nat.mul_div_cancel _ (by positivity), show hi + 1 - lo = width by omega, Nat.mod_mod]

/-- The bits below a field are zero. -/
theorem bits_field_below {width lo hi lo' : Nat} (below : hi < lo) (le : lo' ≤ hi) (fits : lo + width ≤ 32) (v : Nat) :
    bits (field width lo v) hi lo' = 0 := by
  obtain ⟨d, rfl⟩ : ∃ d, lo = lo' + (hi + 1 - lo') + d := ⟨lo - (hi + 1), by omega⟩
  rw [bits_eq, toNat_field fits, pow_add, pow_add, mul_comm, mul_assoc (2 ^ lo'), mul_assoc (2 ^ lo'),
    Nat.mul_div_cancel_left _ (by positivity), mul_assoc, Nat.mul_mod_right]

/-- The bits above a field are zero. -/
theorem bits_field_above {width lo hi lo' : Nat} (above : lo + width ≤ lo') (fits : lo' ≤ 32) (v : Nat) :
    bits (field width lo v) hi lo' = 0 := by
  rw [bits_eq, Nat.div_eq_of_lt (field_toNat_lt above fits v), Nat.zero_mod]

/-! ### Masks -/

/-- No bit of a number stands outside a mask. -/
def Covered (n mask : Nat) : Prop := n &&& mask = n

theorem onlyBits_iff {w mask : Word} : onlyBits w mask = true ↔ Covered w.toNat mask.toNat := by
  have split : w = w &&& mask ||| w &&& ~~~mask := by
    rw [← BitVec.and_or_distrib_left, BitVec.or_not_self, BitVec.and_allOnes]
  rw [onlyBits, beq_iff_eq, Covered, ← BitVec.toNat_and, BitVec.toNat_inj]
  constructor
  · intro h
    rw [h, BitVec.or_zero] at split
    exact split.symm
  · intro h
    rw [← h, BitVec.and_assoc, BitVec.and_not_self]
    exact BitVec.and_zero

theorem covered_low (n k : Nat) : Covered n (2 ^ k - 1) ↔ n < 2 ^ k := by
  rw [Covered, Nat.and_two_pow_sub_one_eq_mod, Nat.mod_eq_iff_lt (by positivity)]

/-- A mask may be taken apart at any bit. -/
theorem covered_split (k : Nat) {n mask : Nat} :
    Covered n mask ↔ Covered (n % 2 ^ k) (mask % 2 ^ k) ∧ Covered (n / 2 ^ k) (mask / 2 ^ k) := by
  simp only [Covered, ← Nat.and_mod_two_pow, ← Nat.and_div_two_pow]
  refine ⟨fun h => by rw [h]; exact ⟨rfl, rfl⟩, fun ⟨low, high⟩ => ?_⟩
  rw [← Nat.div_add_mod (n &&& mask) (2 ^ k), low, high, Nat.div_add_mod]

/-- A mask whose lowest field has `a` bits and whose next begins at bit `k`. -/
theorem covered_field {n a k c : Nat} (h : a ≤ k) :
    Covered n (2 ^ a - 1 + c * 2 ^ k) ↔ n % 2 ^ k < 2 ^ a ∧ Covered (n / 2 ^ k) c := by
  have pos : 0 < 2 ^ a := by positivity
  have below : 2 ^ a - 1 < 2 ^ k := by
    have := Nat.pow_le_pow_right (n := 2) (by norm_num) h
    omega
  rw [covered_split k, Nat.add_mul_mod_self_right, Nat.mod_eq_of_lt below, Nat.add_mul_div_right _ _ (by positivity),
    Nat.div_eq_of_lt below, Nat.zero_add, covered_low]

/-! ### The parameters in range, as numbers (R166, R168) -/

variable {w : Word} {p : Params}

theorem handleInRange_iff : handleInRange w = true ↔ w.toNat % 2 ^ 8 < 2 ^ 5 ∧ w.toNat / 2 ^ 8 < 2 ^ 4 := by
  rw [handleInRange, onlyBits_iff, show (0x00000F1F#32).toNat = 2 ^ 5 - 1 + (2 ^ 4 - 1) * 2 ^ 8 from rfl,
    covered_field (by norm_num), covered_low]

theorem onlyBits_low {mask : Word} (k : Nat) (h : mask.toNat = 2 ^ k - 1) :
    onlyBits w mask = true ↔ w.toNat < 2 ^ k := by
  rw [onlyBits_iff, h, covered_low]

theorem masterInRange_iff : masterInRange w = true ↔ w.toNat ≤ 5 := by
  rw [masterInRange, Bool.and_eq_true, onlyBits_low 3 rfl, decide_eq_true_eq, bits_low]
  omega

theorem targetInRange_iff : targetInRange w = true ↔ w.toNat ≤ 3 := by
  rw [targetInRange, onlyBits_low 2 rfl]
  omega

theorem rangeWordsInRange_iff :
    rangeWordsInRange p = true ↔ p.p0.toNat ≤ 65535 ∧ 1 ≤ p.p1.toNat ∧ p.p1.toNat ≤ 65535 ∧
      p.p2.toNat % 2 ^ 20 < 2 ^ 18 ∧ p.p2.toNat / 2 ^ 20 < 2 ^ 3 := by
  simp only [rangeWordsInRange, Bool.and_eq_true, onlyBits_low (mask := 0x0000FFFF#32) 16 rfl, decide_eq_true_eq,
    claimLength, bits_low]
  rw [onlyBits_iff, show (0x0073FFFF#32).toNat = 2 ^ 18 - 1 + (2 ^ 3 - 1) * 2 ^ 20 from rfl, covered_field (by norm_num),
    covered_low]
  omega

theorem claimInRange_iff : claimInRange p = true ↔ rangeWordsInRange p = true ∧ p.p3.toNat ≤ 65535 := by
  rw [claimInRange, Bool.and_eq_true, onlyBits_low 16 rfl]
  exact and_congr_right fun _ => Nat.lt_succ_iff

theorem claimCommonInRange_iff : claimCommonInRange p = true ↔ rangeWordsInRange p = true ∧ p.p3.toNat < 2 ^ 22 := by
  rw [claimCommonInRange, Bool.and_eq_true, onlyBits_low 22 rfl]

theorem extendInRange_iff :
    extendInRange p = true ↔ handleInRange p.p0 = true ∧ 1 ≤ p.p1.toNat ∧ p.p1.toNat ≤ 65535 := by
  rw [extendInRange, Bool.and_eq_true, Bool.and_eq_true, and_assoc, onlyBits_low 16 rfl, decide_eq_true_eq,
    extendPages, bits_low]
  exact and_congr_right fun _ => by omega

theorem setMembersInRange_iff : setMembersInRange p = true ↔ handleInRange p.p0 = true ∧ p.p1.toNat ≤ 63 := by
  rw [setMembersInRange, Bool.and_eq_true, onlyBits_low 6 rfl]
  exact and_congr_right fun _ => Nat.lt_succ_iff

theorem queryInRange_iff : queryInRange p = true ↔ handleInRange p.p0 = true ∧ p.p1.toNat ≤ 1 := by
  rw [queryInRange, Bool.and_eq_true, onlyBits_low 1 rfl]
  exact and_congr_right fun _ => Nat.lt_succ_iff

theorem accessKind_isSome_iff {n : Nat} : (AccessKind.ofCode n).isSome = true ↔ n ≤ 2 := by
  match n with
  | 0 | 1 | 2 => simp [AccessKind.ofCode]
  | n + 3 => simp [AccessKind.ofCode]

theorem queryAddressInRange_iff :
    queryAddressInRange p = true ↔ p.p0.toNat ≤ 0xFFEFFFF ∧ p.p1.toNat ≤ 2 := by
  simp only [queryAddressInRange, Bool.and_eq_true, onlyBits_low (mask := 0x0FFFFFFF#32) 28 rfl,
    onlyBits_low (mask := 0x00000003#32) 2 rfl, decide_eq_true_eq, accessKind_isSome_iff, bits_low]
  rw [Config.apertureBase]
  omega

theorem fromSlotInRange_iff : fromSlotInRange p = true ↔ p.p0.toNat ≤ 31 := by
  rw [fromSlotInRange, onlyBits_low 5 rfl]
  omega

theorem leaseClockInRange_iff : leaseClockInRange p = true ↔ p.p0.toNat ≤ 4095 ∧ p.p1.toNat < 2 ^ 16 := by
  rw [leaseClockInRange, Bool.and_eq_true, onlyBits_low 12 rfl, onlyBits_low 16 rfl]
  omega

theorem offerInRange_iff :
    offerInRange p = true ↔ handleInRange p.p0 = true ∧ p.p1.toNat % 2 ^ 8 ≤ 5 ∧ 1 ≤ p.p1.toNat / 2 ^ 8 ∧
      p.p1.toNat / 2 ^ 8 ≤ 255 := by
  simp only [offerInRange, Bool.and_eq_true, decide_eq_true_eq, offerTicks, bits_eq, and_assoc]
  rw [onlyBits_iff, show (0x0000FF07#32).toNat = 2 ^ 3 - 1 + (2 ^ 8 - 1) * 2 ^ 8 from rfl, covered_field (by norm_num),
    covered_low]
  exact and_congr_right fun _ => by omega

theorem noticeEnableInRange_iff : noticeEnableInRange p = true ↔ p.p0.toNat < 2 ^ 11 := by
  rw [noticeEnableInRange, onlyBits_low 11 rfl]

theorem policyParam_eq_hold : policyParam p = .hold ↔ p.p1.toNat / 2 ^ 8 % 2 = 1 := by
  rw [policyParam, bits_eq]
  split
  all_goals simp
  all_goals omega

theorem setMasterInRange_iff :
    setMasterInRange p = true ↔ p.p0.toNat ≤ 5 ∧ p.p1.toNat % 2 ^ 8 ≤ 32 ∧ p.p1.toNat / 2 ^ 8 < 4 ∧
      ¬(p.p0.toNat = 0 ∧ p.p1.toNat / 2 ^ 8 % 2 = 1) := by
  simp only [setMasterInRange, Bool.and_eq_true, Bool.not_eq_true', ← Bool.not_eq_true, masterInRange_iff,
    decide_eq_true_eq, beq_iff_eq, policyParam_eq_hold, quotaParam, bits_low, Config.maxQuota]
  rw [onlyBits_iff, show (0x0000033F#32).toNat = 2 ^ 6 - 1 + (2 ^ 2 - 1) * 2 ^ 8 from rfl, covered_field (by norm_num),
    covered_low]
  omega

theorem width_isSome_iff {n : Nat} : (Width.ofCode n).isSome = true ↔ n ≤ 2 := by
  match n with
  | 0 | 1 | 2 => simp [Width.ofCode]
  | n + 3 => simp [Width.ofCode]

theorem setTargetInRange_iff :
    setTargetInRange p = true ↔ p.p0.toNat ≤ 3 ∧ (p.p1.toNat % 2 ^ 20 ≤ 65536 ∧ p.p1.toNat / 2 ^ 20 ≤ 2) ∧
      1 ≤ p.p2.toNat % 2 ^ 8 ∧ p.p2.toNat % 2 ^ 8 ≤ 31 ∧ p.p2.toNat / 2 ^ 8 % 2 ^ 8 ≤ 15 ∧
      8 ≤ p.p2.toNat / 2 ^ 16 ∧ p.p2.toNat / 2 ^ 16 ≤ 1023 := by
  have p1 : onlyBits p.p1 0x0031FFFF#32 = true ↔ p.p1.toNat % 2 ^ 20 < 2 ^ 17 ∧ p.p1.toNat / 2 ^ 20 < 2 ^ 2 := by
    rw [onlyBits_iff, show (0x0031FFFF#32).toNat = 2 ^ 17 - 1 + (2 ^ 2 - 1) * 2 ^ 20 from rfl,
      covered_field (by norm_num), covered_low]
  have p2 : onlyBits p.p2 0x03FF0F1F#32 = true ↔
      p.p2.toNat % 2 ^ 8 < 2 ^ 5 ∧ p.p2.toNat / 2 ^ 8 % 2 ^ 8 < 2 ^ 4 ∧ p.p2.toNat / 2 ^ 8 / 2 ^ 8 < 2 ^ 10 := by
    rw [onlyBits_iff,
      show (0x03FF0F1F#32).toNat = 2 ^ 5 - 1 + (2 ^ 4 - 1 + (2 ^ 10 - 1) * 2 ^ 8) * 2 ^ 8 from rfl,
      covered_field (by norm_num), covered_field (by norm_num), covered_low]
  have named : (match settingsParam p with
      | some c => decide (c.size ≤ 65536) && decide (1 ≤ c.wait) && decide (8 ≤ c.limit)
      | none => false) = true ↔
      bits p.p1 21 20 ≤ 2 ∧ bits p.p1 16 0 ≤ 65536 ∧ 1 ≤ bits p.p2 4 0 ∧ 8 ≤ bits p.p2 25 16 := by
    rw [← width_isSome_iff, settingsParam]
    cases Width.ofCode (bits p.p1 21 20) <;> simp [and_assoc]
  simp only [setTargetInRange, Bool.and_eq_true, targetInRange_iff]
  erw [named]
  rw [p1, p2, bits_low, bits_low, bits_eq, bits_eq]
  omega

/-! ### Notice orders (R149, R168) -/

theorem bits_lt (w : Word) (hi lo : Nat) : bits w hi lo < 2 ^ (hi + 1 - lo) := (w.extractLsb' lo (hi + 1 - lo)).isLt

theorem orderNumbers_lt : ∀ n ∈ orderNumbers p, n < 16 := by
  simp only [orderNumbers, List.forall_mem_cons]
  exact ⟨bits_lt .., bits_lt .., bits_lt .., bits_lt .., bits_lt .., bits_lt .., bits_lt .., bits_lt .., bits_lt ..,
    bits_lt .., bits_lt .., by simp⟩

/-- The positions are the digits of the two words in base 16. -/
theorem ofDigits_orderNumbers : Nat.ofDigits 16 (orderNumbers p) = p.p0.toNat + p.p1.toNat % 2 ^ 12 * 2 ^ 32 := by
  simp only [orderNumbers, Nat.ofDigits_cons, Nat.ofDigits_nil, bits_eq]
  omega

/-- Two words that hold eleven digits hold exactly those as positions. -/
theorem orderNumbers_of_ofDigits {l : List Nat} (length : l.length = 11) (digits : ∀ n ∈ l, n < 16)
    (words : p.p0.toNat + p.p1.toNat * 2 ^ 32 = Nat.ofDigits 16 l) : p.p1.toNat < 2 ^ 12 ∧ orderNumbers p = l := by
  have below : Nat.ofDigits 16 l < 16 ^ 11 := by
    have := Nat.ofDigits_lt_base_pow_length (b := 16) (by norm_num) digits
    rwa [length] at this
  have short : p.p1.toNat < 2 ^ 12 := by omega
  refine ⟨short, Nat.ofDigits_inj_of_len_eq (b := 16) (by norm_num) (by rw [length]; rfl) orderNumbers_lt digits ?_⟩
  rw [ofDigits_orderNumbers, Nat.mod_eq_of_lt short, words]

theorem noticeOrderInRange_iff :
    noticeOrderInRange p = true ↔ p.p1.toNat < 2 ^ 12 ∧ (orderNumbers p).Perm [1, 2, 3, 4, 5, 6, 7, 8, 9, 10, 11] := by
  simp only [noticeOrderInRange, Bool.and_eq_true, onlyBits_low (mask := 0x00000FFF#32) 12 rfl, List.all_eq_true,
    decide_eq_true_eq, and_assoc]
  refine and_congr_right fun _ => ⟨fun ⟨range, nodup⟩ => perm_of_nodup_of_range rfl range nodup, fun perm => ?_⟩
  refine ⟨fun n hn => ?_, perm.nodup_iff.2 (by decide)⟩
  have range : ∀ n ∈ [1, 2, 3, 4, 5, 6, 7, 8, 9, 10, 11], 1 ≤ n ∧ n ≤ 11 := by decide
  exact range n (perm.mem_iff.1 hn)

/-- The nibbles of an order are its numbers, as digits in base 16. -/
theorem toNat_nibbles (o : List NoticeKind) {lo : Nat} (fits : lo + 4 * o.length ≤ 32) :
    (nibbles o lo).toNat = Nat.ofDigits 16 (o.map NoticeKind.number) * 2 ^ lo := by
  induction o generalizing lo with
  | nil => simp [nibbles]
  | cons k ks ih =>
    rw [List.length_cons] at fits
    have rest := ih (lo := lo + 4) (by omega)
    have small : k.number % 2 ^ 4 = k.number := by cases k <;> rfl
    rw [nibbles, toNat_or_of_lt (field_toNat_lt le_rfl (by omega) _) rest, toNat_field (by omega), rest, small,
      List.map_cons, Nat.ofDigits_cons, pow_add]
    ring

theorem orderWords_toNat {o : List NoticeKind} (perm : o.Perm defaultOrder) :
    (orderWord0 o).toNat + (orderWord1 o).toNat * 2 ^ 32 = Nat.ofDigits 16 (o.map NoticeKind.number) := by
  have length : o.length = 11 := perm.length_eq
  have high : (o.drop 8).take 3 = o.drop 8 := List.take_of_length_le (by rw [List.length_drop, length])
  have first : (o.take 8).length = 8 := by rw [List.length_take, length]; rfl
  rw [orderWord0, orderWord1, high, toNat_nibbles _ (by rw [first]),
    toNat_nibbles _ (by rw [List.length_drop, length]; decide)]
  conv_rhs => rw [← List.take_append_drop 8 o, List.map_append, Nat.ofDigits_append, List.length_map, first]
  ring

theorem numbers_of_perm {o : List NoticeKind} (perm : o.Perm defaultOrder) :
    (o.map NoticeKind.number).Perm [1, 2, 3, 4, 5, 6, 7, 8, 9, 10, 11] :=
  perm.map NoticeKind.number

theorem number_lt (k : NoticeKind) : k.number < 16 := by cases k <;> decide

theorem orderNumbers_of_words {o : List NoticeKind} (perm : o.Perm defaultOrder) (h0 : p.p0 = orderWord0 o)
    (h1 : p.p1 = orderWord1 o) : p.p1.toNat < 2 ^ 12 ∧ orderNumbers p = o.map NoticeKind.number := by
  refine orderNumbers_of_ofDigits ((List.length_map _).trans perm.length_eq) (fun n hn => ?_) ?_
  · obtain ⟨k, -, rfl⟩ := List.mem_map.1 hn
    exact number_lt k
  · rw [h0, h1, orderWords_toNat perm]

/-- The words of an order name that order. -/
theorem order_of_words {o : List NoticeKind} (perm : o.Perm defaultOrder) (h0 : p.p0 = orderWord0 o)
    (h1 : p.p1 = orderWord1 o) : noticeOrderInRange p = true ∧ orderParam p = o := by
  obtain ⟨short, numbers⟩ := orderNumbers_of_words perm h0 h1
  refine ⟨noticeOrderInRange_iff.2 ⟨short, numbers ▸ numbers_of_perm perm⟩, ?_⟩
  rw [orderParam, numbers, List.filterMap_map]
  exact (List.filterMap_congr fun k _ => NoticeKind.ofNumber_number k).trans (List.filterMap_some ..)

/-! ### Handle words (R166) -/

theorem handleWord_toNat (h : Handle) : (handleWord h).toNat = h.slot.val + h.gen.toNat * 2 ^ 8 := by
  have slot := h.slot.isLt
  have gen := h.gen.isLt
  rw [handleWord, toNat_two_fields (by norm_num) (by norm_num)]
  omega

theorem handleOf_slot (w : Word) : (handleOf w).slot = Fin.ofNat 32 w.toNat := by
  rw [handleOf, bits_low]
  exact Fin.ext (by simp)

theorem handleOf_gen (w : Word) : (handleOf w).gen.toNat = w.toNat / 2 ^ 8 % 2 ^ 4 := bits_eq w 11 8

theorem handleInRange_iff_eq : handleInRange w = true ↔ w = handleWord (handleOf w) := by
  rw [handleInRange_iff, ← BitVec.toNat_inj, handleWord_toNat, handleOf_gen, handleOf_slot]
  simp only [Fin.ofNat_eq_cast, Fin.val_natCast]
  omega

theorem handleOf_handleWord (h : Handle) : handleOf (handleWord h) = h := by
  have slot := h.slot.isLt
  have gen := h.gen.isLt
  have slots : (handleOf (handleWord h)).slot = h.slot := by
    rw [handleOf_slot, handleWord_toNat]
    exact Fin.ext (by simp; omega)
  have gens : (handleOf (handleWord h)).gen = h.gen := by
    refine BitVec.eq_of_toNat_eq ?_
    rw [handleOf_gen, handleWord_toNat]
    omega
  exact Handle.mk.injEq .. ▸ ⟨slots, gens⟩

end Sys2Proof.Machine
end

section
/-! The encodings (R166 to R170): what the parameter words hold, and where the fields of the words a master reads stand. -/

namespace Sys2Proof.Machine

open Sys2Proof.Safety

variable {p : Params}

/-! ### Parameter words (R166 to R168) -/

theorem cmdId_ofCode_eq (n : Nat) : CmdId.ofCode n =
    [CmdId.claim, .claimCommon, .extend, .release, .revoke, .setMembers, .query, .queryAddress, .findHeld, .renew,
     .setLeaseClock, .offer, .withdraw, .accept, .decline, .readFault, .clearFault, .releaseHold, .takeNotice,
     .setNoticeOrder, .setNoticeEnable, .setMaster, .queryMaster, .detach, .attach, .setTarget, .targetOnline,
     .targetOffline, .queryTarget][n - 1]?.filter fun _ => n ≠ 0 := by
  by_cases known : n < 30
  · interval_cases n <;> rfl
  · have beyond : 29 ≤ n - 1 := by omega
    have unknown : CmdId.ofCode n = none := by
      unfold CmdId.ofCode
      split
      case h_30 => rfl
      all_goals omega
    rw [unknown, List.getElem?_eq_none beyond]
    rfl

theorem codes_eq (n : Nat) :
    AccessKind.ofCode n = [AccessKind.read, .write, .fetch][n]? ∧
    Form.ofCode n = [Form.single1, .single2, .single4, .burst2, .burst4, .burst8][n]? ∧
    Width.ofCode n = [Width.w8, .w16, .w32][n]? := by
  match n with
  | 0 | 1 | 2 | 3 | 4 | 5 => exact ⟨rfl, rfl, rfl⟩
  | n + 6 => exact ⟨rfl, rfl, rfl⟩

/-- The words of a claim hold its operands (R82, R168). -/
theorem claim_words {base length targetBase lease : Nat} {t : Target} {rights : BitVec 3} {members : BitVec 6}
    (hb : base < 65536) (hl : length < 65536) (one : 1 ≤ length) (ht : targetBase < 65536) (he : lease < 65536)
    (hp : p = { p0 := field 16 0 base, p1 := field 16 0 length
                p2 := field 16 0 targetBase ||| field 2 16 t.val ||| field 3 20 rights.toNat
                p3 := field 16 0 lease ||| field 6 16 members.toNat }) :
    claimCommonInRange p = true ∧ (claimInRange p = true ↔ members = 0#6) ∧ claimBase p = base ∧
      claimLength p = length ∧ claimTargetBase p = targetBase ∧ claimTarget p = t ∧ claimRights p = rights ∧
      claimLease p = lease ∧ claimMembers p = members := by
  have target := t.isLt
  have right := rights.isLt
  have member := members.isLt
  have w0 : p.p0.toNat = base := by rw [hp, toNat_field (by norm_num)]; omega
  have w1 : p.p1.toNat = length := by rw [hp, toNat_field (by norm_num)]; omega
  have w2 : p.p2.toNat = targetBase + t.val * 2 ^ 16 + rights.toNat * 2 ^ 20 := by
    rw [hp, toNat_three_fields (by norm_num) (by norm_num) (by norm_num)]; omega
  have w3 : p.p3.toNat = lease + members.toNat * 2 ^ 16 := by
    rw [hp, toNat_two_fields (by norm_num) (by norm_num)]; omega
  have words : rangeWordsInRange p = true := by
    rw [rangeWordsInRange_iff]; omega
  have none_iff : members = 0#6 ↔ members.toNat = 0 := by rw [← BitVec.toNat_inj]; rfl
  refine ⟨claimCommonInRange_iff.2 ⟨words, by omega⟩, ?_, ?_, ?_, ?_, ?_, ?_, ?_, ?_⟩
  · rw [claimInRange_iff, none_iff]
    exact ⟨fun h => by have := h.2; omega, fun h => ⟨words, by omega⟩⟩
  · rw [claimBase, bits_low]; omega
  · rw [claimLength, bits_low]; omega
  · rw [claimTargetBase, bits_low]; omega
  · refine Fin.ext ?_
    rw [claimTarget, bits_eq, Fin.ofNat_eq_cast, Fin.val_natCast]
    omega
  · refine BitVec.eq_of_toNat_eq ((bits_eq p.p2 22 20).trans ?_)
    omega
  · rw [claimLease, bits_low]; omega
  · refine BitVec.eq_of_toNat_eq ((bits_eq p.p3 21 16).trans ?_)
    omega

/-- The words of OFFER hold the handle, the recipient and the ticks. -/
theorem offer_words {h : Handle} {n : Master} {ticks : Nat} (one : 1 ≤ ticks) (byte : ticks < 256)
    (h0 : p.p0 = handleWord h) (h1 : p.p1 = field 3 0 n.val ||| field 8 8 ticks) :
    offerInRange p = true ∧ recipientParam p = n ∧ offerTicks p = ticks := by
  have number := n.isLt
  have w1 : p.p1.toNat = n.val + ticks * 2 ^ 8 := by
    rw [h1, toNat_two_fields (by norm_num) (by norm_num)]; omega
  refine ⟨offerInRange_iff.2 ⟨?_, by omega⟩, Fin.ext ?_, ?_⟩
  · rw [h0, handleInRange_iff_eq, handleOf_handleWord]
  · rw [recipientParam, bits_low, Fin.ofNat_eq_cast, Fin.val_natCast]
    omega
  · rw [offerTicks, bits_eq]; omega

theorem masterParam_field {w : Word} {n : Master} (h : w = field 3 0 n.val) : masterParam w = n ∧ w.toNat = n.val := by
  have number := n.isLt
  have value : w.toNat = n.val := by rw [h, toNat_field (by norm_num)]; omega
  refine ⟨Fin.ext ?_, value⟩
  rw [masterParam, bits_low, Fin.ofNat_eq_cast, Fin.val_natCast]
  omega

theorem targetParam_field {w : Word} {t : Target} (h : w = field 2 0 t.val) : targetParam w = t ∧ w.toNat = t.val := by
  have number := t.isLt
  have value : w.toNat = t.val := by rw [h, toNat_field (by norm_num)]; omega
  refine ⟨Fin.ext ?_, value⟩
  rw [targetParam, bits_low, Fin.ofNat_eq_cast, Fin.val_natCast]
  omega

theorem FaultPolicy.code_inj : ∀ {f g : FaultPolicy}, f.code = g.code → f = g
  | .report, .report, _ => rfl
  | .hold, .hold, _ => rfl

theorem Disposition.code_inj : ∀ {d e : Disposition}, d.code = e.code → d = e
  | .release, .release, _ => rfl
  | .keep, .keep, _ => rfl

theorem policyParam_code (p : Params) : (policyParam p).code = p.p1.toNat / 2 ^ 8 % 2 := by
  rw [policyParam, bits_eq]
  split <;> rw [FaultPolicy.code] <;> omega

theorem dispositionParam_code (p : Params) : (dispositionParam p).code = p.p1.toNat / 2 ^ 9 % 2 := by
  rw [dispositionParam, bits_eq]
  split <;> rw [Disposition.code] <;> omega

/-- The words of SET_MASTER hold the master and its three settings. -/
theorem setMaster_words {n : Master} {quota : Nat} {f : FaultPolicy} {d : Disposition} (most : quota ≤ 32)
    (h0 : p.p0 = field 3 0 n.val) (h1 : p.p1 = field 6 0 quota ||| field 1 8 f.code ||| field 1 9 d.code) :
    (setMasterInRange p = true ↔ ¬(n = 0 ∧ f = .hold)) ∧ masterParam p.p0 = n ∧ quotaParam p = quota ∧
      policyParam p = f ∧ dispositionParam p = d := by
  obtain ⟨named, w0⟩ := masterParam_field h0
  have number := n.isLt
  have policyBit : f.code < 2 := by cases f <;> decide
  have dispositionBit : d.code < 2 := by cases d <;> decide
  have w1 : p.p1.toNat = quota + f.code * 2 ^ 8 + d.code * 2 ^ 9 := by
    rw [h1, toNat_three_fields (by norm_num) (by norm_num) (by norm_num)]; omega
  have policy : policyParam p = f := FaultPolicy.code_inj (by rw [policyParam_code, w1]; omega)
  refine ⟨?_, named, ?_, policy, Disposition.code_inj (by rw [dispositionParam_code, w1]; omega)⟩
  · rw [setMasterInRange_iff, ← policyParam_eq_hold, policy, w0, show n = 0 ↔ n.val = 0 from Fin.ext_iff]
    exact ⟨fun ⟨_, _, _, h⟩ => h, fun h => ⟨by omega, by omega, by omega, h⟩⟩
  · rw [quotaParam, bits_low]
    omega

/-- The words of SET_TARGET hold the target and its five settings. -/
theorem setTarget_words {t : Target} {c : TargetSettings} (range : SettingsInRange c) (h0 : p.p0 = field 2 0 t.val)
    (h1 : p.p1 = field 17 0 c.size ||| field 2 20 c.width.code)
    (h2 : p.p2 = field 5 0 c.wait ||| field 4 8 c.recovery ||| field 10 16 c.limit) :
    setTargetInRange p = true ∧ targetParam p.p0 = t ∧ settingsParam p = some c := by
  obtain ⟨size, one, wait, recovery, eight, limit⟩ := range
  obtain ⟨named, w0⟩ := targetParam_field h0
  have number := t.isLt
  have width : c.width.code < 3 := by cases c.width <;> decide
  have w1 : p.p1.toNat = c.size + c.width.code * 2 ^ 20 := by
    rw [h1, toNat_two_fields (by norm_num) (by norm_num)]; omega
  have w2 : p.p2.toNat = c.wait + c.recovery * 2 ^ 8 + c.limit * 2 ^ 16 := by
    rw [h2, toNat_three_fields (by norm_num) (by norm_num) (by norm_num)]; omega
  refine ⟨by rw [setTargetInRange_iff]; omega, named, ?_⟩
  have names : Width.ofCode (bits p.p1 21 20) = some c.width := by
    rw [bits_eq, w1, show (c.size + c.width.code * 2 ^ 20) / 2 ^ 20 % 2 ^ (21 + 1 - 20) = c.width.code by omega]
    cases c.width <;> rfl
  have fields : bits p.p1 16 0 = c.size ∧ bits p.p2 4 0 = c.wait ∧ bits p.p2 11 8 = c.recovery ∧
      bits p.p2 25 16 = c.limit := by
    rw [bits_low, bits_low, bits_eq, bits_eq]; omega
  obtain ⟨f1, f2, f3, f4⟩ := fields
  rw [settingsParam, names, f1, f2, f3, f4]
  rfl

/-- Settles O24: layout by layout. -/
theorem parameterWordsHoldTheirOperands : Obligations.ParameterWordsHoldTheirOperands := by
  refine ⟨cmdId_ofCode_eq, codes_eq, rfl, fun width lo v fits => toNat_field fits v, handleWord_toNat,
    fun o perm => orderWords_toNat perm, rfl, rfl, rfl, fun w => handleInRange_iff_eq, handleOf_handleWord,
    fun base length targetBase lease t rights members p hb hl one ht he hp => claim_words hb hl one ht he hp,
    fun h n ticks p one byte h0 h1 => offer_words one byte h0 h1,
    fun n quota f d p most h0 h1 => setMaster_words most h0 h1,
    fun t c p range h0 h1 h2 => setTarget_words range h0 h1 h2, fun o p perm h0 h1 => order_of_words perm h0 h1⟩

/-! ### The words a master reads (R169, R170) -/

theorem bits_zero_word (hi lo : Nat) : bits 0#32 hi lo = 0 := by
  rw [bits_eq]
  simp

theorem ResultCode.code_lt (c : ResultCode) : c.code < 2 ^ 5 := by cases c <;> decide

/-- The fields of the status word (R167). -/
theorem statusWord_fields {b : Mailbox} {r : MasterRecord} (few : r.notices.length ≤ 293) :
    let w := statusWord b r
    bits w 1 0 = b.state.code ∧ bits w 3 2 = r.state.code ∧
    bits w 8 4 = (if b.state = .done then (b.result.map ResultCode.code).getD 0 else 0) ∧
    bits w 16 9 = (b.command.map BitVec.toNat).getD 0 ∧ bits w 25 17 = r.notices.length ∧ bits w 31 26 = 0 := by
  have mailbox : b.state.code < 2 ^ 2 := by cases b.state <;> decide
  have master : r.state.code < 2 ^ 2 := by cases r.state <;> decide
  have result : (if b.state = .done then (b.result.map ResultCode.code).getD 0 else 0) < 2 ^ 5 := by
    split
    · cases b.result with
      | none => decide
      | some c => exact c.code_lt
    · decide
  have command : (b.command.map BitVec.toNat).getD 0 < 2 ^ 8 := by
    cases b.command with
    | none => decide
    | some c => exact c.isLt
  have count : r.notices.length < 2 ^ 9 := by omega
  simp (disch := omega) only [statusWord, bits_or, bits_field_same, bits_field_below, bits_field_above, Nat.zero_or,
    Nat.or_zero, Nat.mod_eq_of_lt mailbox, Nat.mod_eq_of_lt master, Nat.mod_eq_of_lt result, Nat.mod_eq_of_lt command,
    Nat.mod_eq_of_lt count, and_self]

/-- The fields of the notice word (R170). -/
theorem noticeWord_fields (n : Notice) :
    let w := noticeWord n
    bits w 4 0 = n.key.val ∧ bits w 11 8 = n.gen.toNat ∧ bits w 19 16 = n.kind.number ∧
    bits w 21 20 = n.cause.code ∧ bits w 7 5 = 0 ∧ bits w 15 12 = 0 ∧ bits w 31 22 = 0 := by
  have key : n.key.val < 2 ^ 5 := n.key.isLt
  have gen : n.gen.toNat < 2 ^ 4 := n.gen.isLt
  have kind : n.kind.number < 2 ^ 4 := number_lt n.kind
  have cause : n.cause.code < 2 ^ 2 := by cases n.cause <;> decide
  simp (disch := omega) only [noticeWord, bits_or, bits_field_same, bits_field_below, bits_field_above, Nat.zero_or,
    Nat.or_zero, Nat.mod_eq_of_lt key, Nat.mod_eq_of_lt gen, Nat.mod_eq_of_lt kind, Nat.mod_eq_of_lt cause, and_self]

/-- The bits of a window summary that tell of an offer. -/
def offerBits : Option Offer → Word
  | some o => field 1 27 1 ||| field 3 28 o.recipient.val
  | none => 0#32

theorem offerBits_fields (o : Option Offer) :
    bits (offerBits o) 27 27 = (if o.isSome = true then 1 else 0) ∧
    bits (offerBits o) 30 28 = (o.map fun o => o.recipient.val).getD 0 ∧ bits (offerBits o) 31 31 = 0 ∧
    ∀ hi lo, hi < 27 → lo ≤ hi → bits (offerBits o) hi lo = 0 := by
  cases o with
  | none => simp [offerBits, bits_zero_word]
  | some o =>
    have recipient : o.recipient.val < 2 ^ 3 := by omega
    refine ⟨?_, ?_, ?_, fun hi lo below le => ?_⟩
    all_goals
      simp (disch := omega) only [offerBits, bits_or, bits_field_same, bits_field_below, bits_field_above, Nat.zero_or,
        Nat.or_zero, Nat.mod_eq_of_lt recipient] <;> rfl

/-- The fields of the window summary (R99, R169). -/
theorem windowSummary_fields (i : Slot) (v : Window) :
    let w := windowSummary i v
    bits w 4 0 = i.val ∧ bits w 11 8 = v.gen.toNat ∧ bits w 14 12 = v.state.code ∧ bits w 15 15 = v.layer.code ∧
    bits w 18 16 = v.holder.val ∧ bits w 20 19 = v.target.val ∧ bits w 23 21 = v.rights.toNat ∧
    bits w 24 24 = (if v.warned = true then 1 else 0) ∧ bits w 26 25 = v.retireNotice.code ∧
    bits w 27 27 = (if v.offer.isSome = true then 1 else 0) ∧
    bits w 30 28 = (v.offer.map fun o => o.recipient.val).getD 0 ∧ bits w 31 31 = 0 := by
  have slot : i.val < 2 ^ 5 := i.isLt
  have gen : v.gen.toNat < 2 ^ 4 := v.gen.isLt
  have state : v.state.code < 2 ^ 3 := by cases v.state <;> decide
  have layer : v.layer.code < 2 ^ 1 := by cases v.layer <;> decide
  have holder : v.holder.val < 2 ^ 3 := by omega
  have target : v.target.val < 2 ^ 2 := v.target.isLt
  have rights : v.rights.toNat < 2 ^ 3 := v.rights.isLt
  have warned : (if v.warned = true then 1 else 0) < 2 ^ 1 := by split <;> decide
  have cause : v.retireNotice.code < 2 ^ 2 := by cases v.retireNotice <;> decide
  obtain ⟨present, recipient, top, low⟩ := offerBits_fields v.offer
  intro w
  have summary : w = handleWord { slot := i, gen := v.gen } ||| field 3 12 v.state.code ||| field 1 15 v.layer.code |||
      field 3 16 v.holder.val ||| field 2 19 v.target.val ||| field 3 21 v.rights.toNat ||| field 1 24 (bit v.warned) |||
      field 2 25 v.retireNotice.code ||| offerBits v.offer := rfl
  simp (disch := omega) only [summary, handleWord, bits_or, bits_field_same, bits_field_below, bits_field_above,
    Nat.zero_or, Nat.or_zero, Nat.mod_eq_of_lt slot, Nat.mod_eq_of_lt gen, Nat.mod_eq_of_lt state,
    Nat.mod_eq_of_lt layer, Nat.mod_eq_of_lt holder, Nat.mod_eq_of_lt target, Nat.mod_eq_of_lt rights,
    Nat.mod_eq_of_lt warned, Nat.mod_eq_of_lt cause, present, recipient, top, low, bit, and_self]

/-- Settles O25: word by word. -/
theorem readWordsHoldTheirFields : Obligations.ReadWordsHoldTheirFields := by
  refine ⟨rfl, rfl, ⟨rfl, rfl, rfl, fun _ => rfl⟩, rfl, rfl, rfl, rfl, rfl, rfl, rfl, rfl, rfl,
    fun w hi lo _ => bits_eq w hi lo, ?_, ?_, ?_⟩
  · rintro b r w few rfl
    exact statusWord_fields few
  · rintro n w rfl
    exact noticeWord_fields n
  · rintro i v w rfl
    exact windowSummary_fields i v

end Sys2Proof.Machine
end

section
/-! The refusals of the commands (R77): the checks of the model, in their order, are the conditions the rules name. -/

namespace Sys2Proof.Machine

open Sys2Proof.Safety

variable {m : Master} {p : Params} {s : State}

/-! ### Agreement in order -/

/-- Checks and refusals agree place by place, each where the checks before it passed. -/
inductive AgreeInOrder : List (Bool × ResultCode) → List (Prop × ResultCode) → Prop
  | nil : AgreeInOrder [] []
  | cons {b : Bool} {fails : Prop} {code : ResultCode} {checks : List (Bool × ResultCode)}
      {refusals : List (Prop × ResultCode)} (passes : b = true ↔ ¬ fails)
      (rest : b = true → AgreeInOrder checks refusals) :
      AgreeInOrder ((b, code) :: checks) ((fails, code) :: refusals)

theorem AgreeInOrder.firstFailure_eq_some {checks : List (Bool × ResultCode)} {refusals : List (Prop × ResultCode)}
    (h : AgreeInOrder checks refusals) {code : ResultCode} (refused : RefusedWith refusals code) :
    firstFailure checks = some code := by
  induction h with
  | nil => exact refused.elim
  | @cons b fails c checks refusals passes rest ih =>
    obtain ⟨failed, rfl⟩ | ⟨passed, refused⟩ := refused
    · have no : b = false := Bool.eq_false_iff.2 fun pass => passes.1 pass failed
      rw [no]
      rfl
    · have yes : b = true := passes.2 passed
      rw [yes]
      exact ih yes refused

theorem AgreeInOrder.pass {checks : List (Bool × ResultCode)} {refusals : List (Prop × ResultCode)}
    (h : AgreeInOrder checks refusals) (none : ∀ r ∈ refusals, ¬ r.1) : ∀ c ∈ checks, c.1 = true := by
  induction h with
  | nil => simp
  | @cons b fails c checks refusals passes rest ih =>
    obtain ⟨passed, others⟩ := List.forall_mem_cons.1 none
    have yes : b = true := passes.2 passed
    exact List.forall_mem_cons.2 ⟨yes, ih yes others⟩

/-- A range check against the range the rules give. -/
theorem AgreeInOrder.inRange {b : Bool} {range : Prop} {code : ResultCode} {checks : List (Bool × ResultCode)}
    {refusals : List (Prop × ResultCode)} (same : b = true ↔ range) (rest : b = true → AgreeInOrder checks refusals) :
    AgreeInOrder ((b, code) :: checks) ((¬ range, code) :: refusals) :=
  .cons (same.trans not_not.symm) rest

theorem beq_iff_not_ne {α : Type} [BEq α] [LawfulBEq α] {a b : α} : (a == b) = true ↔ ¬ a ≠ b := by simp

theorem bne_iff_not_eq {α : Type} [BEq α] [LawfulBEq α] {a b : α} : (a != b) = true ↔ ¬ a = b := by simp

/-! ### Ranges of parameters (R166, R168) -/

theorem isHandle_iff {w : Word} : handleInRange w = true ↔ IsHandle w := by
  rw [handleInRange_iff]
  constructor
  · intro h
    exact ⟨w.toNat % 2 ^ 8, h.1, w.toNat / 2 ^ 8, h.2, by omega⟩
  · rintro ⟨slot, hs, gen, hg, h⟩
    omega

theorem claimed_iff : rangeWordsInRange p = true ↔ ParamsInRange.claimed p := by
  rw [rangeWordsInRange_iff]
  refine and_congr_right fun _ => and_congr_right fun _ => and_congr_right fun _ => ⟨fun h => ?_, ?_⟩
  · exact ⟨p.p2.toNat % 2 ^ 16, by omega, p.p2.toNat / 2 ^ 16 % 2 ^ 4, by omega, p.p2.toNat / 2 ^ 20, by omega, by omega⟩
  · rintro ⟨base, hb, target, ht, rights, hr, h⟩
    omega

theorem claim_range : claimInRange p = true ↔ ParamsInRange .claim p := by
  rw [claimInRange_iff, claimed_iff]
  rfl

theorem claimCommon_range : claimCommonInRange p = true ↔ ParamsInRange .claimCommon p := by
  rw [claimCommonInRange_iff, claimed_iff]
  refine and_congr_right fun _ => ⟨fun h => ?_, ?_⟩
  · exact ⟨p.p3.toNat % 2 ^ 16, by omega, p.p3.toNat / 2 ^ 16, by omega, by omega⟩
  · rintro ⟨lease, hl, members, hm, h⟩
    omega

theorem extend_range : extendInRange p = true ↔ ParamsInRange .extend p := by
  rw [extendInRange_iff, isHandle_iff]
  rfl

theorem setMembers_range : setMembersInRange p = true ↔ ParamsInRange .setMembers p := by
  rw [setMembersInRange_iff, isHandle_iff]
  rfl

theorem query_range : queryInRange p = true ↔ ParamsInRange .query p := by
  rw [queryInRange_iff, isHandle_iff]
  rfl

theorem setLeaseClock_range : leaseClockInRange p = true ↔ ParamsInRange .setLeaseClock p := by
  rw [leaseClockInRange_iff]
  refine and_congr_right fun _ => ⟨fun h => ?_, ?_⟩
  · exact ⟨p.p1.toNat % 2 ^ 8, by omega, p.p1.toNat / 2 ^ 8, by omega, by omega⟩
  · rintro ⟨margin, hm, grace, hg, h⟩
    omega

theorem offer_range : offerInRange p = true ↔ ParamsInRange .offer p := by
  rw [offerInRange_iff, isHandle_iff]
  refine and_congr_right fun _ => ⟨fun h => ?_, ?_⟩
  · exact ⟨p.p1.toNat % 2 ^ 8, by omega, p.p1.toNat / 2 ^ 8, by omega, by omega, by omega⟩
  · rintro ⟨recipient, hr, ticks, ht, one, h⟩
    omega

theorem setMaster_range : setMasterInRange p = true ↔ ParamsInRange .setMaster p := by
  rw [setMasterInRange_iff]
  refine and_congr_right fun _ => ⟨fun ⟨quota, high, supervisor⟩ => ?_, ?_⟩
  · exact ⟨p.p1.toNat % 2 ^ 8, quota, p.p1.toNat / 2 ^ 8 % 2, by omega, p.p1.toNat / 2 ^ 9,
      by omega, by omega, supervisor⟩
  · rintro ⟨quota, hq, hold, hh, keep, hk, h, supervisor⟩
    have bit : p.p1.toNat / 2 ^ 8 % 2 = hold := by omega
    exact ⟨by omega, by omega, by rw [bit]; exact supervisor⟩

theorem setTarget_range : setTargetInRange p = true ↔ ParamsInRange .setTarget p := by
  rw [setTargetInRange_iff]
  refine and_congr_right fun _ => and_congr ⟨fun h => ?_, ?_⟩ ⟨fun h => ?_, ?_⟩
  · exact ⟨p.p1.toNat % 2 ^ 20, by omega, p.p1.toNat / 2 ^ 20, by omega, by omega⟩
  · rintro ⟨size, hs, width, hw, h⟩
    omega
  · exact ⟨p.p2.toNat % 2 ^ 8, by omega, p.p2.toNat / 2 ^ 8 % 2 ^ 8, by omega, p.p2.toNat / 2 ^ 16, by omega, by omega,
      by omega, by omega⟩
  · rintro ⟨wait, hw, recovery, hr, limit, hl, one, eight, h⟩
    omega

theorem setNoticeOrder_range : noticeOrderInRange p = true ↔ ParamsInRange .setNoticeOrder p := by
  rw [noticeOrderInRange_iff]
  constructor
  · rintro ⟨short, perm⟩
    exact ⟨_, perm, by rw [ofDigits_orderNumbers, Nat.mod_eq_of_lt short]⟩
  · rintro ⟨o, perm, words⟩
    have digits : ∀ n ∈ [1, 2, 3, 4, 5, 6, 7, 8, 9, 10, 11], n < 16 := by decide
    obtain ⟨short, numbers⟩ := orderNumbers_of_ofDigits perm.length_eq (fun n hn => digits n (perm.mem_iff.1 hn)) words
    exact ⟨short, numbers ▸ perm⟩

/-! ### The window, the master and the target that P0 names -/

theorem window_handleOf : s.window (handleOf p.p0).slot = refusals.w p s := by
  rw [handleOf_slot]
  rfl

theorem masterParam_eq : masterParam p.p0 = Fin.ofNat 6 (p.p0.toNat % 2 ^ 3) := by
  rw [masterParam, bits_low]

theorem masterParam_of_inRange (h : masterInRange p.p0 = true) : masterParam p.p0 = refusals.named p := by
  have small := masterInRange_iff.1 h
  rw [masterParam_eq, Nat.mod_eq_of_lt (by omega)]
  rfl

theorem targetParam_eq : targetParam p.p0 = refusals.unit p := by
  refine Fin.ext ?_
  rw [targetParam, bits_low, refusals.unit, Fin.ofNat_eq_cast, Fin.ofNat_eq_cast, Fin.val_natCast, Fin.val_natCast]
  omega

theorem claimTarget_eq : claimTarget p = refusals.claimedTarget p := by
  refine Fin.ext ?_
  rw [claimTarget, bits_eq, refusals.claimedTarget, Fin.ofNat_eq_cast, Fin.ofNat_eq_cast, Fin.val_natCast,
    Fin.val_natCast]
  omega

/-! ### Shared conditions -/

theorem supervisorCheck_iff : (m == 0) = true ↔ ¬ m ≠ 0 := beq_iff_not_ne

theorem current_iff_not_stale (range : handleInRange p.p0 = true) :
    s.current (handleOf p.p0) = true ↔
      ¬((refusals.w p s).state = .free ∨ (refusals.w p s).gen.toNat ≠ p.p0.toNat / 2 ^ 8) := by
  rw [current_iff, window_handleOf, not_or, not_not, ← BitVec.toNat_inj, handleOf_gen,
    Nat.mod_eq_of_lt (handleInRange_iff.1 range).2]

theorem retirableState_iff {w : Window} :
    retirableState w = true ↔ ¬(w.state ≠ .active ∧ w.state ≠ .offered ∧ w.state ≠ .lapsed) := by
  rw [retirableState]
  cases w.state <;> decide

theorem offeredTo_iff_not {w : Window} : w.offeredTo m = true ↔ ¬ ¬ ∃ o ∈ w.offer, o.recipient = m := by
  rw [not_not, Window.offeredTo_iff]

theorem quota_iff {k : Nat} : decide (s.heldPrivate m < k) = true ↔
    ¬ k ≤ (List.finRange 32).countP fun j : Slot =>
      (s.window j).state != .free && (s.window j).layer == .priv && (s.window j).holder == m := by
  rw [decide_eq_true_iff, not_le]
  rfl

theorem privateClear_iff_not_met {except : Slot → Bool} {base length : Nat} :
    s.privateClear m except base length = true ↔
      ¬ ∃ j, except j = false ∧ (s.window j).state ≠ .free ∧ (s.window j).layer = .priv ∧ (s.window j).holder = m ∧
        Meet base length (s.window j).fabricBase (s.window j).length := by
  simp only [privateClear_iff, Window.live_iff, ← rangesMeet_iff, not_exists, not_and, Bool.not_eq_true]

theorem commonClear_iff_not_met {except : Slot → Bool} {base length : Nat} :
    s.commonClear except base length = true ↔
      ¬ ∃ j, except j = false ∧ (s.window j).state ≠ .free ∧ (s.window j).layer = .common ∧
        Meet base length (s.window j).fabricBase (s.window j).length := by
  simp only [commonClear_iff, Window.live_iff, ← rangesMeet_iff, not_exists, not_and, Bool.not_eq_true]

theorem targetClear_iff_not_met {except : Slot → Bool} {t : Target} {base length : Nat} :
    s.targetClear except t base length = true ↔
      ¬ ∃ j, except j = false ∧ (s.window j).state ≠ .free ∧ (s.window j).target = t ∧
        Meet base length (s.window j).targetBase (s.window j).length := by
  simp only [targetClear_iff, Window.live_iff, ← rangesMeet_iff, not_exists, not_and, Bool.not_eq_true]

theorem lowestFree_isSome_iff : s.lowestFree.isSome = true ↔ ¬ ∀ j, (s.window j).state ≠ .free := by
  simp [State.lowestFree, allSlots]

theorem le_iff_not_lt_dec {a b : Nat} : decide (a ≤ b) = true ↔ ¬ b < a := by
  rw [decide_eq_true_iff, not_lt]

theorem belowAperture_iff_not {a n : Nat} : belowAperture a n = true ↔ ¬ 65519 < a + n - 1 := by
  rw [belowAperture_iff]
  omega

end Sys2Proof.Machine
end

section
/-! Each command's checks agree with its refusals (R77), and the two statements on how commands are refused. -/

namespace Sys2Proof.Machine

open Sys2Proof.Safety

variable {m : Master} {p : Params} {s : State}

/-! ### Claims (R84, R87) -/

/-- The words of a claim in range are its operands. -/
theorem claim_operands (range : rangeWordsInRange p = true) :
    claimBase p = p.p0.toNat ∧ claimLength p = p.p1.toNat ∧ claimTargetBase p = p.p2.toNat % 2 ^ 16 ∧
      (claimRights p ≠ 0#3 ↔ ¬ p.p2.toNat / 2 ^ 20 = 0) := by
  have words := rangeWordsInRange_iff.1 range
  have rights : (claimRights p).toNat = p.p2.toNat / 2 ^ 20 % 2 ^ 3 := bits_eq p.p2 22 20
  have zero : claimRights p = 0#3 ↔ (claimRights p).toNat = 0 := by rw [← BitVec.toNat_inj]; rfl
  rw [claimBase, claimLength, claimTargetBase, bits_low, bits_low, bits_low, Ne, zero, rights]
  omega

section
variable (range : rangeWordsInRange p = true)
include range

theorem claimRights_iff : (claimRights p != 0#3) = true ↔ ¬ p.p2.toNat / 2 ^ 20 = 0 := by
  obtain ⟨-, -, -, rights⟩ := claim_operands range
  rw [bne_iff_ne, rights]

theorem claimAperture_iff :
    belowAperture (claimBase p) (claimLength p) = true ↔ ¬ 65519 < p.p0.toNat + p.p1.toNat - 1 := by
  obtain ⟨base, length, -⟩ := claim_operands range
  rw [base, length, belowAperture_iff_not]

theorem claimWithin_iff :
    decide (claimTargetBase p + claimLength p ≤ (s.target (claimTarget p)).settings.size) = true ↔
      ¬ (s.target (refusals.claimedTarget p)).settings.size < p.p2.toNat % 2 ^ 16 + p.p1.toNat := by
  obtain ⟨-, length, targetBase, -⟩ := claim_operands range
  rw [length, targetBase, claimTarget_eq, le_iff_not_lt_dec]

theorem claimTargetClear_iff :
    s.targetClear noSlots (claimTarget p) (claimTargetBase p) (claimLength p) = true ↔ ¬ (refusals.targetMet p s).1 := by
  obtain ⟨-, length, targetBase, -⟩ := claim_operands range
  rw [length, targetBase, claimTarget_eq, targetClear_iff_not_met]
  simp only [noSlots, true_and]
  rfl

/-- The last three checks of both claims. -/
theorem agree_claim_targets :
    AgreeInOrder
      [(decide (claimTargetBase p + claimLength p ≤ (s.target (claimTarget p)).settings.size), .outOfTarget),
        (s.targetClear noSlots (claimTarget p) (claimTargetBase p) (claimLength p), .overlapTarget),
        (s.lowestFree.isSome, .noSlot)]
      [refusals.outOfTarget p s, refusals.targetMet p s, refusals.noSlot s] :=
  .cons (claimWithin_iff range) fun _ => .cons (claimTargetClear_iff range) fun _ =>
    .cons lowestFree_isSome_iff fun _ => .nil

end

theorem agree_claim : AgreeInOrder (claimChecks m p s) (refusals .claim m p s) := by
  refine .inRange claim_range fun inRange => ?_
  obtain ⟨range, short⟩ := claimInRange_iff.1 inRange
  obtain ⟨base, length, -⟩ := claim_operands range
  have lease : (claimLease p != 0) = true ↔ ¬ p.p3.toNat = 0 := by
    rw [bne_iff_ne, claimLease, bits_low]
    omega
  have clear : s.privateClear m noSlots (claimBase p) (claimLength p) = true ↔
      ¬ refusals.privateMeets s m p.p0.toNat p.p1.toNat := by
    rw [base, length, privateClear_iff_not_met]
    simp only [noSlots, true_and]
    rfl
  exact .cons lease fun _ => .cons (claimRights_iff range) fun _ => .cons (claimAperture_iff range) fun _ =>
    .cons quota_iff fun _ => .cons clear fun _ => agree_claim_targets range

theorem agree_claimCommon : AgreeInOrder (claimCommonChecks m p s) (refusals .claimCommon m p s) := by
  refine .cons supervisorCheck_iff fun _ => .inRange claimCommon_range fun inRange => ?_
  obtain ⟨range, -⟩ := claimCommonInRange_iff.1 inRange
  obtain ⟨base, length, -⟩ := claim_operands range
  refine .cons (claimRights_iff range) fun _ => .cons (claimAperture_iff range) fun _ =>
    .cons ?_ fun _ => agree_claim_targets range
  rw [base, length, commonClear_iff_not_met]
  simp only [noSlots, true_and]

/-! ### The commands on a handle (R90 to R98, R114, R121 to R125) -/

theorem mayExtend_iff {w : Window} : mayExtend w m = true ↔ ¬ m ≠ (if w.layer = .priv then w.holder else 0) := by
  rw [mayExtend, not_not]
  cases w.layer <;> simp

theorem agree_extend : AgreeInOrder (extendChecks m p s) (refusals .extend m p s) := by
  refine .inRange extend_range fun range => ?_
  obtain ⟨handle, one, short⟩ := extendInRange_iff.1 range
  have pages : extendPages p = p.p1.toNat := by rw [extendPages, bits_low]; omega
  have slot : (handleOf p.p0).slot = refusals.slot p := handleOf_slot _
  refine .cons (current_iff_not_stale handle) fun _ => ?_
  simp only [pages, slot]
  refine .cons mayExtend_iff fun _ => .cons beq_iff_not_ne fun _ => .cons ?_ fun _ => .cons ?_ fun _ =>
    .cons le_iff_not_lt_dec fun _ => .cons ?_ fun _ => .nil
  · rw [belowAperture_iff_not, Nat.add_assoc]
    rfl
  · rw [extendClear]
    split
    · simp only [privateClear_iff_not_met, beq_eq_false_iff_ne]
      simp_all [refusals.w]
    · simp only [commonClear_iff_not_met, beq_eq_false_iff_ne]
      simp_all [refusals.w]
  · simp only [targetClear_iff_not_met, beq_eq_false_iff_ne]
    rfl

theorem agree_release : AgreeInOrder (releaseChecks m p s) (refusals .release m p s) := by
  simp only [releaseChecks, window_handleOf]
  exact .inRange isHandle_iff fun range => .cons (current_iff_not_stale range) fun _ => .cons beq_iff_not_ne fun _ =>
    .cons retirableState_iff fun _ => .nil

theorem agree_revoke : AgreeInOrder (revokeChecks m p s) (refusals .revoke m p s) := by
  simp only [revokeChecks, window_handleOf]
  exact .cons supervisorCheck_iff fun _ => .inRange isHandle_iff fun range => .cons (current_iff_not_stale range) fun _ =>
    .cons retirableState_iff fun _ => .nil

theorem agree_setMembers : AgreeInOrder (setMembersChecks m p s) (refusals .setMembers m p s) := by
  simp only [setMembersChecks, window_handleOf]
  refine .cons supervisorCheck_iff fun _ => .inRange setMembers_range fun range =>
    .cons (current_iff_not_stale (setMembersInRange_iff.1 range).1) fun _ => .cons beq_iff_not_ne fun _ =>
    .cons ?_ fun _ => .nil
  rw [Bool.or_eq_true, beq_iff_eq, beq_iff_eq, not_and_or, not_not, not_not]

theorem mayQuery_iff {w : Window} : mayQuery w m = true ↔
    ¬(m ≠ 0 ∧ w.holder ≠ m ∧ ¬(w.state = .offered ∧ ∃ o ∈ w.offer, o.recipient = m) ∧
      ¬(w.layer = .common ∧ ∃ set ∈ w.members, set.getLsbD m.val = true)) := by
  simp only [mayQuery, Bool.or_eq_true, Bool.and_eq_true, beq_iff_eq, Window.offeredTo_iff, hasMember_iff]
  rw [← not_iff_not]
  simp only [not_or, not_not, and_assoc, ne_eq]

theorem agree_query : AgreeInOrder (queryChecks m p s) (refusals .query m p s) := by
  simp only [queryChecks, window_handleOf]
  exact .inRange query_range fun range => .cons (current_iff_not_stale (queryInRange_iff.1 range).1) fun _ =>
    .cons mayQuery_iff fun _ => .nil

theorem renewable_iff {w : Window} : renewable w = true ↔
    ¬((w.state ≠ .active ∧ w.state ≠ .offered ∧ w.state ≠ .lapsed) ∨ w.leasePeriod = none) := by
  rw [renewable, Bool.and_eq_true, not_or, ← retirableState_iff, Option.isSome_iff_ne_none, retirableState]

theorem agree_renew : AgreeInOrder (renewChecks m p s) (refusals .renew m p s) := by
  simp only [renewChecks, window_handleOf]
  exact .inRange isHandle_iff fun range => .cons (current_iff_not_stale range) fun _ => .cons beq_iff_not_ne fun _ =>
    .cons renewable_iff fun _ => .nil

theorem agree_offer : AgreeInOrder (offerChecks m p s) (refusals .offer m p s) := by
  simp only [offerChecks, window_handleOf]
  refine .inRange offer_range fun range => ?_
  obtain ⟨handle, recipient, -⟩ := offerInRange_iff.1 range
  have named : recipientParam p = Fin.ofNat 6 (p.p1.toNat % 2 ^ 8) := by
    rw [recipientParam, bits_low]
    congr 1
    omega
  have self : (recipientParam p != m) = true ↔ ¬ p.p1.toNat % 2 ^ 8 = m.val := by
    rw [bne_iff_not_eq, named, Fin.ext_iff, Fin.ofNat_eq_cast, Fin.val_natCast, Nat.mod_eq_of_lt (by omega)]
  refine .cons (current_iff_not_stale handle) fun _ => .cons beq_iff_not_ne fun _ => .cons beq_iff_not_ne fun _ =>
    .cons beq_iff_not_ne fun _ => .cons self fun _ => .cons ?_ fun _ => .nil
  rw [named]
  exact bne_iff_not_eq

theorem agree_withdraw : AgreeInOrder (withdrawChecks m p s) (refusals .withdraw m p s) := by
  simp only [withdrawChecks, window_handleOf]
  exact .inRange isHandle_iff fun range => .cons (current_iff_not_stale range) fun _ => .cons beq_iff_not_ne fun _ =>
    .cons beq_iff_not_ne fun _ => .cons beq_iff_not_ne fun _ => .nil

theorem agree_accept : AgreeInOrder (acceptChecks m p s) (refusals .accept m p s) := by
  simp only [acceptChecks, window_handleOf]
  refine .inRange isHandle_iff fun range => .cons (current_iff_not_stale range) fun _ => .cons offeredTo_iff_not fun _ =>
    .cons quota_iff fun _ => .cons ?_ fun _ => .nil
  rw [privateClear_iff_not_met]
  simp only [noSlots, true_and]
  rfl

theorem agree_decline : AgreeInOrder (declineChecks m p s) (refusals .decline m p s) := by
  simp only [declineChecks, window_handleOf]
  exact .inRange isHandle_iff fun range => .cons (current_iff_not_stale range) fun _ =>
    .cons offeredTo_iff_not fun _ => .nil

/-! ### The commands on masters and targets (R61 to R64, R141, R156, R157, R159, R162) -/

theorem agree_releaseHold : AgreeInOrder (releaseHoldChecks m p s) (refusals .releaseHold m p s) :=
  .cons supervisorCheck_iff fun _ => .inRange masterInRange_iff fun range =>
    .cons (by rw [masterParam_of_inRange range]; exact beq_iff_not_ne) fun _ => .nil

theorem agree_queryMaster : AgreeInOrder (queryMasterChecks m p) (refusals .queryMaster m p s) := by
  refine .inRange masterInRange_iff fun range => .cons ?_ fun _ => .nil
  rw [masterParam_of_inRange range, Bool.or_eq_true, beq_iff_eq, beq_iff_eq, not_and_or, not_not, not_not]

theorem agree_detach : AgreeInOrder (detachChecks m p s) (refusals .detach m p s) := by
  refine .cons supervisorCheck_iff fun _ => .inRange masterInRange_iff fun range => ?_
  rw [masterParam_of_inRange range]
  exact .cons bne_iff_not_eq fun _ => .cons bne_iff_not_eq fun _ => .nil

theorem agree_attach : AgreeInOrder (attachChecks m p s) (refusals .attach m p s) :=
  .cons supervisorCheck_iff fun _ => .inRange masterInRange_iff fun range =>
    .cons (by rw [masterParam_of_inRange range]; exact beq_iff_not_ne) fun _ => .nil

theorem agree_setTarget : AgreeInOrder (setTargetChecks m p s) (refusals .setTarget m p s) := by
  refine .cons supervisorCheck_iff fun _ => .inRange setTarget_range fun range => ?_
  rw [targetParam_eq]
  refine .cons bne_iff_not_eq fun _ => .cons ?_ fun _ => .nil
  have size : bits p.p1 16 0 = p.p1.toNat % 2 ^ 20 := by
    have := (setTargetInRange_iff.1 range).2.1
    rw [bits_low]
    omega
  simp [State.fitsTarget, allSlots, size, Window.live, or_iff_not_imp_left]

/-! ### The obligation -/

/-- The checks of a command in execution and the refusals of the rules agree in order. -/
theorem agree (id : CmdId) (m : Master) (p : Params) (s : State) :
    AgreeInOrder (commandChecks id m p s) (refusals id m p s) := by
  cases id
  case claim => exact agree_claim
  case claimCommon => exact agree_claimCommon
  case extend => exact agree_extend
  case release => exact agree_release
  case revoke => exact agree_revoke
  case setMembers => exact agree_setMembers
  case query => exact agree_query
  case queryAddress => exact .inRange queryAddressInRange_iff fun _ => .nil
  case findHeld => exact .inRange fromSlotInRange_iff fun _ => .nil
  case renew => exact agree_renew
  case setLeaseClock => exact .cons supervisorCheck_iff fun _ => .inRange setLeaseClock_range fun _ => .nil
  case offer => exact agree_offer
  case withdraw => exact agree_withdraw
  case accept => exact agree_accept
  case decline => exact agree_decline
  case readFault => exact .nil
  case clearFault => exact .nil
  case releaseHold => exact agree_releaseHold
  case takeNotice => exact .nil
  case setNoticeOrder => exact .inRange setNoticeOrder_range fun _ => .nil
  case setNoticeEnable => exact .inRange noticeEnableInRange_iff fun _ => .nil
  case setMaster => exact .cons supervisorCheck_iff fun _ => .inRange setMaster_range fun _ => .nil
  case queryMaster => exact agree_queryMaster
  case detach => exact agree_detach
  case attach => exact agree_attach
  case setTarget => exact agree_setTarget
  case targetOnline =>
    exact .cons supervisorCheck_iff fun _ => .inRange targetInRange_iff fun _ =>
      .cons (by rw [targetParam_eq]; exact bne_iff_not_eq) fun _ => .nil
  case targetOffline =>
    exact .cons supervisorCheck_iff fun _ => .inRange targetInRange_iff fun _ =>
      .cons (by rw [targetParam_eq]; exact bne_iff_not_eq) fun _ => .nil
  case queryTarget => exact .inRange targetInRange_iff fun _ => .nil

/-- Every supervisor-only command refuses other masters first (R76). -/
theorem refusedWith_notSupervisor (hm : m ≠ 0) :
    ∀ id ∈ supervisorOnly, RefusedWith (refusals id m p s) .notSupervisor := by
  simp only [supervisorOnly, List.forall_mem_cons, List.not_mem_nil, false_implies, implies_true, and_true]
  have first (rest : List (Prop × ResultCode)) : RefusedWith (refusals.notM0 m :: rest) .notSupervisor :=
    .inl ⟨hm, rfl⟩
  exact ⟨first _, first _, first _, first _, first _, first _, first _, first _, first _, first _, first _⟩

/-- Settles O23: the checks of the model and the refusals of the rules agree in order. -/
theorem commandsAreRefusedByTheFirstFailingCheck : Obligations.CommandsAreRefusedByTheFirstFailingCheck := by
  have refused (id : CmdId) (x : Execution) (s : State) (h : Executing s x id) (code : ResultCode)
      (first : RefusedWith (refusals id x.master x.params s) code) :
      exec (completion id) s = .next (finish x (refusal code s)) :=
    exec_completion_of_failure h ((agree ..).firstFailure_eq_some first)
  refine ⟨fun id x s h => ⟨refused id x s h, fun none => ?_⟩, fun id only x s h hm =>
    refused id x s h _ (refusedWith_notSupervisor hm id only)⟩
  have pass := (agree id x.master x.params s).pass none
  exact ⟨_, _, _, commandEffect_succeeded pass, exec_completion_of_pass h pass⟩

end Sys2Proof.Machine
end

section
/-! The window commands (chapters 5 to 7): each passes its checks under the conditions of its rule, and then has the
effect the rule gives. -/

namespace Sys2Proof.Machine

open Sys2Proof.Safety

variable {s : State} {x : Execution} {m : Master} {p : Params} {i : Slot}

/-! ### Searches through the slots -/

theorem find?_allSlots {f : Slot → Bool} (here : f i = true) (before : ∀ j, j < i → f j = false) :
    allSlots.find? f = some i := by
  refine List.find?_eq_some_iff_getElem.2 ⟨here, i.val, by simp [allSlots], by simp [allSlots], fun j hj => ?_⟩
  have earlier : f ⟨j, hj.trans i.isLt⟩ = false := before _ hj
  simpa [allSlots] using earlier

theorem lowestFree_eq (free : (s.window i).state = .free) (taken : ∀ j, j < i → (s.window j).state ≠ .free) :
    s.lowestFree = some i :=
  find?_allSlots (by simp [free]) fun j hj => by simp [taken j hj]

/-! ### Claims (R84, R85, R87) -/

theorem rangesMeet_eq_false {a n b k : Nat} (h : Apart a n b k) : rangesMeet a n b k = false :=
  Bool.eq_false_iff.2 (mt rangesMeet_iff.1 (not_meet_of_apart h))

/-- A claim takes the lowest FREE slot. -/
theorem claimSlot_eq {layer : Layer} {members : Option (BitVec 6)} (free : (s.window i).state = .free)
    (taken : ∀ j, j < i → (s.window j).state ≠ .free) :
    claimSlot layer m members p s =
      { state := s.setWindow i (claimedWindow (s.window i).gen layer m members p)
        code := .done
        words := words1 (handleWord { slot := i, gen := (s.window i).gen }) } := by
  rw [claimSlot, lowestFree_eq free taken]
  rfl

/-- Settles O26: the conditions are the checks of CLAIM, one by one. -/
theorem claimTakesTheLowestFreeSlot : Obligations.ClaimTakesTheLowestFreeSlot := by
  intro s x i h range lease rights below quota fabric within target free taken
  have pass : ∀ c ∈ commandChecks .claim x.master x.params s, c.1 = true := by
    simp only [commandChecks, claimChecks, List.forall_mem_cons]
    exact ⟨range, by simpa using lease, by simpa using rights, belowAperture_iff.2 below, by simpa using quota,
      privateClear_iff.2 fun j _ live layer holder => rangesMeet_eq_false (fabric j live layer holder),
      by simpa using within, targetClear_iff.2 fun j _ live same => rangesMeet_eq_false (target j live same),
      by rw [lowestFree_eq free taken]; rfl, by simp⟩
  refine (exec_completion_of_pass h pass).trans ?_
  rw [commandEffect, claimSlot_eq free taken, claimedWindow, claimPeriod, if_neg lease]
  rfl

/-- Settles O27: the conditions are the checks of CLAIM_COMMON. -/
theorem claimCommonMakesACommonWindow : Obligations.ClaimCommonMakesACommonWindow := by
  intro s x i h supervisor range rights below fabric within target free taken
  have pass : ∀ c ∈ commandChecks .claimCommon x.master x.params s, c.1 = true := by
    simp only [commandChecks, claimCommonChecks, List.forall_mem_cons]
    exact ⟨by rw [supervisor]; rfl, range, by simpa using rights, belowAperture_iff.2 below,
      commonClear_iff.2 fun j _ live layer => rangesMeet_eq_false (fabric j live layer),
      by simpa using within, targetClear_iff.2 fun j _ live same => rangesMeet_eq_false (target j live same),
      by rw [lowestFree_eq free taken]; rfl, by simp⟩
  refine (exec_completion_of_pass h pass).trans ?_
  rw [commandEffect, claimSlot_eq free taken]
  rfl

/-! ### The commands on a handle -/

section
variable (handle : handleOf p.p0 = { slot := i, gen := (s.window i).gen })
include handle

theorem current_of_live (live : (s.window i).state ≠ .free) : s.current (handleOf p.p0) = true := by
  rw [handle]
  exact current_iff.2 ⟨live, rfl⟩

theorem window_of_handle : s.window (handleOf p.p0).slot = s.window i := by rw [handle]

end

/-- Settles O28: the conditions are the checks of EXTEND. -/
theorem extendGrowsOnlyTheLength : Obligations.ExtendGrowsOnlyTheLength := by
  rintro s x i _ h range handle rfl active permitted below fabric within target
  have slot : (handleOf x.params.p0).slot = i := by rw [handle]
  have others {j : Slot} (hj : (j == i) = false) : j ≠ i := by simpa using hj
  have clear : extendClear s i ((s.window i).fabricBase + (s.window i).length) (extendPages x.params) = true := by
    rw [extendClear]
    split
    next layer =>
      exact privateClear_iff.2 fun j hj live same holder =>
        rangesMeet_eq_false (fabric j (others hj) live (same.trans layer.symm) fun _ => holder)
    next layer =>
      exact commonClear_iff.2 fun j hj live same =>
        rangesMeet_eq_false (fabric j (others hj) live (same.trans layer.symm) fun e => by simp [e] at layer)
  have pass : ∀ c ∈ commandChecks .extend x.master x.params s, c.1 = true := by
    simp only [commandChecks, extendChecks, List.forall_mem_cons, slot]
    exact ⟨range, current_of_live handle (by simp [active]), mayExtend_iff.2 (not_not.2 permitted), by simpa using active,
      belowAperture_iff.2 (by rw [← Nat.add_assoc]; exact below), clear, by simpa using within,
      targetClear_iff.2 fun j hj live same => rangesMeet_eq_false (target j (others hj) live same), by simp⟩
  refine (exec_completion_of_pass h pass).trans ?_
  simp only [commandEffect, handle]
  rfl

/-- Settles O29: the conditions are the checks of RELEASE and of REVOKE. -/
theorem releaseAndRevokeRetireTheWindow : Obligations.ReleaseAndRevokeRetireTheWindow := by
  rintro s x i _ range handle rfl state retired
  have retirable : retirableState (s.window i) = true := by simpa [retirableState, or_assoc] using state
  have current := current_of_live handle (by obtain h | h | h := state <;> simp [h])
  refine ⟨fun h holder => ?_, fun h supervisor => ?_⟩
  · have pass : ∀ c ∈ commandChecks .release x.master x.params s, c.1 = true := by
      simp only [commandChecks, releaseChecks, List.forall_mem_cons, window_of_handle handle]
      exact ⟨range, current, by simpa using holder.symm, retirable, by simp⟩
    refine (exec_completion_of_pass h pass).trans ?_
    simp only [commandEffect, handle]
    rfl
  · have pass : ∀ c ∈ commandChecks .revoke x.master x.params s, c.1 = true := by
      simp only [commandChecks, revokeChecks, List.forall_mem_cons, window_of_handle handle]
      exact ⟨by rw [supervisor]; rfl, range, current, retirable, by simp⟩
    refine (exec_completion_of_pass h pass).trans ?_
    simp only [commandEffect, handle]
    rfl

/-! ### Leases (R106, R114 to R116) -/

/-- The conditions of RENEW are its checks (R114). -/
theorem renew_pass {period : Nat} (range : handleInRange p.p0 = true)
    (handle : handleOf p.p0 = { slot := i, gen := (s.window i).gen }) (holder : (s.window i).holder = m)
    (leased : (s.window i).leasePeriod = some period)
    (state : (s.window i).state = .active ∨ (s.window i).state = .offered ∨ (s.window i).state = .lapsed) :
    ∀ c ∈ commandChecks .renew m p s, c.1 = true := by
  simp only [commandChecks, renewChecks, List.forall_mem_cons, window_of_handle handle]
  exact ⟨range, current_of_live handle (by obtain h | h | h := state <;> simp [h]), by simpa using holder,
    by simpa [renewable, leased, or_assoc] using state, by simp⟩

theorem newTimer_eq {divider margin grace : Nat} (hd : divider < 4096) (hm : margin < 256) (hg : grace < 256)
    (h0 : p.p0 = field 12 0 divider) (h1 : p.p1 = field 8 0 margin ||| field 8 8 grace) :
    leaseClockInRange p = true ∧ newTimer p = { divider := divider, margin := margin, grace := grace, cycles := 0 } := by
  have w0 : p.p0.toNat = divider := by rw [h0, toNat_field (by norm_num)]; omega
  have w1 : p.p1.toNat = margin + grace * 2 ^ 8 := by
    rw [h1, toNat_two_fields (by norm_num) (by norm_num)]; omega
  refine ⟨leaseClockInRange_iff.2 (by omega), ?_⟩
  have fields : bits p.p0 11 0 = divider ∧ bits p.p1 7 0 = margin ∧ bits p.p1 15 8 = grace := by
    rw [bits_low, bits_low, bits_eq]; omega
  obtain ⟨f1, f2, f3⟩ := fields
  rw [newTimer, f1, f2, f3]

/-- Settles O33: RENEW in time and late, and SET_LEASE_CLOCK. -/
theorem renewAndSetLeaseClock : Obligations.RenewAndSetLeaseClock := by
  refine ⟨?_, fun s x divider margin grace h supervisor hd hm hg h0 h1 => ?_⟩
  · rintro s x i _ period h range handle rfl holder leased words
    refine ⟨fun state => ?inTime, fun state => ?late⟩
    case inTime =>
      refine (exec_completion_of_pass h (renew_pass range handle holder leased (state.imp_right .inl))).trans ?_
      obtain state | state := state <;> simp only [commandEffect, handle, renewEffect, leased, state] <;> rfl
    case late =>
      refine (exec_completion_of_pass h (renew_pass range handle holder leased (.inr (.inr state)))).trans ?_
      simp only [commandEffect, handle, renewEffect, leased, state]
      rfl
  · obtain ⟨range, timer⟩ := newTimer_eq hd hm hg h0 h1
    have pass : ∀ c ∈ commandChecks .setLeaseClock x.master x.params s, c.1 = true := by
      simp only [commandChecks, List.forall_mem_cons]
      exact ⟨by rw [supervisor]; rfl, range, by simp⟩
    refine (exec_completion_of_pass h pass).trans ?_
    simp only [commandEffect, timer]
    rfl

/-! ### Handoff (R121 to R126) -/

/-- Settles O34: the conditions are the checks of OFFER. -/
theorem offerMovesTheWindowToOffered : Obligations.OfferMovesTheWindowToOffered := by
  rintro s x i _ n ticks h range handle rfl rfl rfl holder active layer other online
  have pass : ∀ c ∈ commandChecks .offer x.master x.params s, c.1 = true := by
    simp only [commandChecks, offerChecks, List.forall_mem_cons, window_of_handle handle]
    exact ⟨range, current_of_live handle (by simp [active]), by simpa using holder, by simpa using active,
      by simpa using layer, by simpa using other, by simpa using online, by simp⟩
  refine (exec_completion_of_pass h pass).trans ?_
  simp only [commandEffect, handle]
  rfl

theorem setWindow_raiseNotice (m : Master) (n : Notice) (i : Slot) (w : Window) (s : State) :
    (raiseNotice m n s).setWindow i w = raiseNotice m n (s.setWindow i w) := rfl

theorem setWindow_removeNotice (m : Master) (k : NoticeKind) (j i : Slot) (w : Window) (s : State) :
    (removeNotice m k j s).setWindow i w = removeNotice m k j (s.setWindow i w) := rfl

/-- The end of an offer by its holder: the recipient sees it withdrawn. -/
theorem reactivate_withdrawOffer {o : Offer} (offer : (s.window i).offer = some o) :
    reactivate i (withdrawOffer i s) =
      raiseNotice o.recipient (slotNotice .offerWithdrawn i (s.window i).gen)
        (removeNotice o.recipient .offerReceived i
          (s.setWindow i { s.window i with state := .active, offer := none })) := by
  simp only [reactivate, withdrawOffer, offer]
  rw [setWindow_raiseNotice, setWindow_removeNotice, State.setWindow_setWindow, raiseNotice_window, removeNotice_window,
    State.window_setWindow, if_pos rfl]

/-- The end of an offer by its recipient. -/
theorem declineOffer_eq {o : Offer} (offer : (s.window i).offer = some o) :
    declineOffer i s =
      raiseNotice (s.window i).holder (slotNotice .offerDeclined i (s.window i).gen)
        (removeNotice o.recipient .offerReceived i
          (s.setWindow i { s.window i with state := .active, offer := none })) := by
  simp only [declineOffer, offer]

/-- Settles O35: the conditions are the checks of WITHDRAW and of DECLINE. -/
theorem withdrawAndDeclineEndTheOffer : Obligations.WithdrawAndDeclineEndTheOffer := by
  rintro s x i _ o range handle rfl offered offer layer note ended
  have current := current_of_live handle (by simp [offered])
  refine ⟨fun h holder => ⟨_, ?_, reactivate_withdrawOffer offer⟩, fun h recipient => ?_⟩
  · have pass : ∀ c ∈ commandChecks .withdraw x.master x.params s, c.1 = true := by
      simp only [commandChecks, withdrawChecks, List.forall_mem_cons, window_of_handle handle]
      exact ⟨range, current, by simpa using holder, by simpa using layer, by simpa using offered, by simp⟩
    refine (exec_completion_of_pass h pass).trans ?_
    simp only [commandEffect, handle, offer]
    rfl
  · have pass : ∀ c ∈ commandChecks .decline x.master x.params s, c.1 = true := by
      simp only [commandChecks, declineChecks, List.forall_mem_cons, window_of_handle handle]
      exact ⟨range, current, Window.offeredTo_iff.2 ⟨o, offer, recipient⟩, by simp⟩
    refine (exec_completion_of_pass h pass).trans ?_
    simp only [commandEffect, handle, declineOffer_eq offer]
    rfl

/-- Settles O36: the conditions are the checks of ACCEPT. -/
theorem acceptMovesTheWindow : Obligations.AcceptMovesTheWindow := by
  rintro s x i _ o h range handle rfl offered offer recipient quota fabric
  have pass : ∀ c ∈ commandChecks .accept x.master x.params s, c.1 = true := by
    simp only [commandChecks, acceptChecks, List.forall_mem_cons, window_of_handle handle]
    exact ⟨range, current_of_live handle (by simp [offered]), Window.offeredTo_iff.2 ⟨o, offer, recipient⟩,
      by simpa using quota,
      privateClear_iff.2 fun j _ live layer holder => rangesMeet_eq_false (fabric j live layer holder), by simp⟩
  refine (exec_completion_of_pass h pass).trans ?_
  simp only [commandEffect, handle]
  rfl

end Sys2Proof.Machine
end

section
/-! The commands on faults, notices, masters and targets (chapters 3 and 8 to 10), and the device reset. -/

namespace Sys2Proof.Machine

open Sys2Proof.Safety

variable {s : State} {x : Execution} {m : Master} {p : Params}

/-! ### Faults (R135, R136) -/

theorem field_eq_setWidth {k : Nat} (fits : k ≤ 32) (v : BitVec k) : field k 0 v.toNat = v.setWidth 32 := by
  refine BitVec.eq_of_toNat_eq ?_
  have below : v.toNat < 2 ^ 32 := v.isLt.trans_le (Nat.pow_le_pow_right (by norm_num) fits)
  rw [toNat_field (by omega), pow_zero, Nat.mul_one, Nat.mod_eq_of_lt v.isLt, BitVec.toNat_setWidth,
    Nat.mod_eq_of_lt below]

theorem accessKindCode_eq (k : Option AccessKind) : accessKindCode k = (k.map AccessKind.code).getD 3 := by
  cases k <;> rfl

theorem formCode_eq (f : Option Form) : formCode f = (f.map Form.code).getD 7 := by
  cases f <;> rfl

/-- Settles O37: neither command has a check. -/
theorem readFaultAndClearFault : Obligations.ReadFaultAndClearFault := by
  intro s x words
  have words_eq : faultWords (s.master x.master).faultRecord = words := by
    simp only [words]
    cases (s.master x.master).faultRecord with
    | none => rfl
    | some f =>
      simp only [faultWords, field_eq_setWidth (by norm_num : 28 ≤ 32), accessKindCode_eq, formCode_eq]
      rfl
  refine ⟨fun h => ?_, fun h => ?_⟩
  · refine (exec_completion_of_pass h (by simp [commandChecks])).trans ?_
    simp only [commandEffect, readFaultBody, words_eq]
  · refine (exec_completion_of_pass h (by simp [commandChecks])).trans ?_
    simp only [commandEffect, clearFaultBody, words_eq, removeNotice, State.setMaster_setMaster, State.master_setMaster,
      if_pos]
    rfl

/-! ### Masters (R141, R156, R157, R162) -/

theorem masterInRange_of_field {w : Word} {n : Master} (h : w = field 3 0 n.val) : masterInRange w = true := by
  have number := n.isLt
  rw [masterInRange_iff, (masterParam_field h).2]
  omega

/-- Settles O38: the conditions are the checks of RELEASE_HOLD and of ATTACH. -/
theorem releaseHoldAndAttach : Obligations.ReleaseHoldAndAttach := by
  intro s x n supervisor word returned
  obtain ⟨named, -⟩ := masterParam_field word
  have range := masterInRange_of_field word
  refine ⟨fun h held => ?_, fun h offline => ?_⟩
  · have pass : ∀ c ∈ commandChecks .releaseHold x.master x.params s, c.1 = true := by
      simp only [commandChecks, releaseHoldChecks, List.forall_mem_cons, named]
      exact ⟨by rw [supervisor]; rfl, range, by simpa using held, by simp⟩
    refine (exec_completion_of_pass h pass).trans ?_
    simp only [commandEffect, named]
    rfl
  · have pass : ∀ c ∈ commandChecks .attach x.master x.params s, c.1 = true := by
      simp only [commandChecks, attachChecks, List.forall_mem_cons, named]
      exact ⟨by rw [supervisor]; rfl, range, by simpa using offline, by simp⟩
    refine (exec_completion_of_pass h pass).trans ?_
    simp only [commandEffect, named]
    rfl

/-- Settles O41: the conditions are the checks of SET_MASTER and of QUERY_MASTER. -/
theorem setMasterAndQueryMaster : Obligations.SetMasterAndQueryMaster := by
  intro s x n word settings held
  refine ⟨fun quota f d h supervisor most mild w1 => ?_, fun h permitted => ?_⟩
  · obtain ⟨range, named, hq, hf, hd⟩ := setMaster_words most word w1
    have pass : ∀ c ∈ commandChecks .setMaster x.master x.params s, c.1 = true := by
      simp only [commandChecks, List.forall_mem_cons]
      exact ⟨by rw [supervisor]; rfl, range.2 mild, by simp⟩
    refine (exec_completion_of_pass h pass).trans ?_
    simp only [commandEffect, named, hq, hf, hd]
    rfl
  · obtain ⟨named, -⟩ := masterParam_field word
    have pass : ∀ c ∈ commandChecks .queryMaster x.master x.params s, c.1 = true := by
      simp only [commandChecks, queryMasterChecks, List.forall_mem_cons, named]
      exact ⟨masterInRange_of_field word, by simpa using permitted, by simp⟩
    refine (exec_completion_of_pass h pass).trans ?_
    simp only [commandEffect, named]
    rfl

/-! ### Orders and enables (R149 to R151) -/

theorem enables_of_word {e : BitVec 11} (h : p.p0 = e.setWidth 32) :
    noticeEnableInRange p = true ∧ enablesParam p = e := by
  have value : p.p0.toNat = e.toNat := by
    rw [h, ← field_eq_setWidth (by norm_num), toNat_field (by norm_num)]
    omega
  refine ⟨noticeEnableInRange_iff.2 (by omega), BitVec.eq_of_toNat_eq ((bits_low p.p0 10).trans ?_)⟩
  rw [value]
  exact Nat.mod_eq_of_lt e.isLt

theorem attn_iff : s.attn m = true ↔
    ∃ n ∈ (s.master m).notices, (s.master m).enables.getLsbD (n.kind.number - 1) = true := by
  simp [State.attn, kindEnabled]

/-- Settles O40: the words name the order and the enables. -/
theorem setNoticeOrderAndEnable : Obligations.SetNoticeOrderAndEnable := by
  refine fun s x => ⟨fun o h perm h0 h1 => ?_, fun e h word => ?_⟩
  · obtain ⟨range, named⟩ := order_of_words perm h0 h1
    refine (exec_completion_of_pass h (by simpa [commandChecks] using range)).trans ?_
    simp only [commandEffect, named]
    rfl
  · obtain ⟨range, named⟩ := enables_of_word word
    refine ⟨_, (exec_completion_of_pass h (by simpa [commandChecks] using range)).trans ?_, rfl, ?_⟩
    · simp only [commandEffect, named, field_eq_setWidth (by norm_num : 11 ≤ 32)]
      rfl
    · rw [attn_iff]
      simp

/-! ### Targets (R61 to R64) -/

theorem targetInRange_of_field {w : Word} {t : Target} (h : w = field 2 0 t.val) : targetInRange w = true := by
  have number := t.isLt
  rw [targetInRange_iff, (targetParam_field h).2]
  omega

/-- Settles O43: the conditions are the checks of the four commands. -/
theorem targetCommandsActOnTheRecord : Obligations.TargetCommandsActOnTheRecord := by
  intro s x t word completed zero
  obtain ⟨named, -⟩ := targetParam_field word
  have inRange := targetInRange_of_field word
  refine ⟨fun c h supervisor range h1 h2 busy fits => ?_, fun h supervisor state => ?_, fun h supervisor state => ?_,
    fun h => ?_⟩
  · obtain ⟨inRange, -, settings⟩ := setTarget_words range word h1 h2
    have size : bits x.params.p1 16 0 = c.size := by
      obtain ⟨d, param, size, -⟩ := settingsParam_of_inRange inRange
      rw [← size]
      exact congrArg _ (Option.some.inj (param.symm.trans settings))
    have pass : ∀ c ∈ commandChecks .setTarget x.master x.params s, c.1 = true := by
      simp only [commandChecks, setTargetChecks, List.forall_mem_cons, named, size]
      refine ⟨by rw [supervisor]; rfl, inRange, by simpa using busy, ?_, by simp⟩
      simpa [State.fitsTarget, allSlots, ← or_iff_not_imp_left, imp_iff_not_or, or_assoc] using fits
    refine (exec_completion_of_pass h pass).trans ?_
    simp only [commandEffect, named, settings]
    rfl
  · have pass : ∀ c ∈ commandChecks .targetOnline x.master x.params s, c.1 = true := by
      simp only [commandChecks, List.forall_mem_cons, named]
      exact ⟨by rw [supervisor]; rfl, inRange, by simpa using state, by simp⟩
    refine (exec_completion_of_pass h pass).trans ?_
    simp only [commandEffect, named]
    rfl
  · have pass : ∀ c ∈ commandChecks .targetOffline x.master x.params s, c.1 = true := by
      simp only [commandChecks, List.forall_mem_cons, named]
      exact ⟨by rw [supervisor]; rfl, inRange, by simpa using state, by simp⟩
    refine (exec_completion_of_pass h pass).trans ?_
    simp only [commandEffect, named]
    rfl
  · refine (exec_completion_of_pass h (by simpa [commandChecks] using inRange)).trans ?_
    simp only [commandEffect, named]
    rfl

/-! ### The device reset (R45, R65, R81) -/

/-- Settles O48: every block is written with its reset contents. -/
theorem deviceResetReturnsEveryBlock : Obligations.DeviceResetReturnsEveryBlock := by
  refine fun s => ⟨⟨assertDeviceReset s, rfl, fun i => rfl, fun m => rfl, fun m => rfl, fun m => ?_,
    fun t => ?_, fun t => ?_, rfl, rfl, rfl, rfl, rfl⟩, rfl⟩
  · rw [assertDeviceReset_port, reset_port]
    rfl
  · rw [assertDeviceReset_target, reset_target]
    rfl
  · rw [assertDeviceReset_target, resetTarget_drive]
    exact ⟨rfl, rfl, rfl, by decide⟩

end Sys2Proof.Machine
end

section
/-! The queries of the window table (R98 to R102), and the taking of a notice (R147, R148). -/

namespace Sys2Proof.Machine

open Sys2Proof.Safety

variable {s : State} {x : Execution} {m : Master} {p : Params}

/-! ### QUERY, QUERY_ADDRESS and FIND_HELD -/

theorem queryWords_eq (range : queryInRange p = true) (i : Slot) (w : Window) :
    queryWords i w (bits p.p1 0 0) =
      if p.p1 = 0#32 then
        { w0 := windowSummary i w
          w1 := field 16 0 w.fabricBase ||| field 16 16 w.length
          w2 := field 16 0 w.targetBase ||| field 6 16 ((w.members.map BitVec.toNat).getD 0) }
      else
        { w0 := windowSummary i w
          w1 := field 16 0 (w.leasePeriod.getD 0) ||| field 16 16 w.leaseRemaining
          w2 := field 8 0 w.graceRemaining ||| field 8 8 ((w.offer.map Offer.ticks).getD 0) |||
            field 5 16 w.inFlight } := by
  have small := (queryInRange_iff.1 range).2
  have view : bits p.p1 0 0 = 0 ↔ p.p1 = 0#32 := by
    rw [← BitVec.toNat_inj, bits_low]
    change p.p1.toNat % 2 = 0 ↔ p.p1.toNat = 0
    omega
  simp only [queryWords, view]

theorem queryAddress_words {a : FabricAddr} {k : AccessKind} (below : a.toNat < 0xFFF0000)
    (h0 : p.p0 = field 28 0 a.toNat) (h1 : p.p1 = field 2 0 k.code) :
    queryAddressInRange p = true ∧ addressParam p = a ∧ queryKind p = k := by
  have code : k.code < 3 := by cases k <;> decide
  have w0 : p.p0.toNat = a.toNat := by rw [h0, toNat_field (by norm_num)]; omega
  have w1 : p.p1.toNat = k.code := by rw [h1, toNat_field (by norm_num)]; omega
  refine ⟨queryAddressInRange_iff.2 (by omega), BitVec.eq_of_toNat_eq ((bits_low p.p0 27).trans ?_), ?_⟩
  · omega
  · rw [queryKind, bits_low, w1]
    cases k <;> rfl

/-- The first live slot of a master from a slot on (R102). -/
theorem firstHeld_eq_some {start i : Slot} (from_ : start ≤ i) (live : (s.window i).state ≠ .free)
    (held : (s.window i).holder = m)
    (before : ∀ j : Slot, start ≤ j → j < i → (s.window j).state = .free ∨ (s.window j).holder ≠ m) :
    s.firstHeld m start.val = some i := by
  refine find?_allSlots ?_ fun j hj => ?_
  · simpa [Window.live, live, held] using from_
  · by_cases later : start ≤ j
    · obtain free | other := before j later hj
      · simp [Window.live, free]
      · simp [other]
    · simp [show ¬ start.val ≤ j.val from later]

theorem firstHeld_eq_none {start : Slot}
    (absent : ∀ j : Slot, start ≤ j → (s.window j).state = .free ∨ (s.window j).holder ≠ m) :
    s.firstHeld m start.val = none := by
  refine List.find?_eq_none.2 fun j _ => ?_
  by_cases later : start ≤ j
  · obtain free | other := absent j later
    · simp [Window.live, free]
    · simp [other]
  · simp [show ¬ start.val ≤ j.val from later]

theorem findHeld_word {start : Slot} (h : p.p0 = field 5 0 start.val) :
    fromSlotInRange p = true ∧ bits p.p0 4 0 = start.val := by
  have w0 : p.p0.toNat = start.val := by rw [h, toNat_field (by norm_num)]; omega
  exact ⟨fromSlotInRange_iff.2 (by omega), by rw [bits_low]; omega⟩

/-- Settles O32: the parameters name what is asked for, and the state is left alone. -/
theorem tableQueriesReportAndChangeNothing : Obligations.TableQueriesReportAndChangeNothing := by
  intro s x completed
  refine ⟨?query, fun a k h below h0 h1 => ?address, fun start h word => ?held⟩
  case query =>
    rintro i _ h range handle rfl live permitted
    have may : mayQuery (s.window i) x.master = true := by
      simpa only [mayQuery, Bool.or_eq_true, Bool.and_eq_true, beq_iff_eq, Window.offeredTo_iff, hasMember_iff,
        or_assoc] using permitted
    have pass : ∀ c ∈ commandChecks .query x.master x.params s, c.1 = true := by
      simp only [commandChecks, queryChecks, List.forall_mem_cons, window_of_handle handle]
      exact ⟨range, current_of_live handle live, may, by simp⟩
    refine (exec_completion_of_pass h pass).trans ?_
    simp only [commandEffect, queryWords_eq range, handle]
    rfl
  case address =>
    obtain ⟨range, address, kind⟩ := queryAddress_words below h0 h1
    refine (exec_completion_of_pass h (by simpa [commandChecks] using range)).trans ?_
    simp only [commandEffect, address, kind]
    rw [show pageOf a = a.toNat / 4096 from rfl]
    cases decideAccess s x.master (a.toNat / 4096) k <;> rfl
  case held =>
    obtain ⟨range, number⟩ := findHeld_word word
    have effect := exec_completion_of_pass h (by simpa [commandChecks] using range)
    refine ⟨fun i from_ live held before => effect.trans ?_, fun absent => effect.trans ?_⟩
    · simp only [commandEffect, number, firstHeld_eq_some from_ live held before]
      rfl
    · simp only [commandEffect, number, firstHeld_eq_none absent]
      rfl

/-! ### TAKE_NOTICE -/

/-- Taking the notice of a kind and key out of a set takes one notice out. -/
theorem dropNotice_split {a b : List Notice} {n : Notice} (rising : RisingRanks (a ++ n :: b)) :
    dropNotice n.kind n.key (a ++ n :: b) = a ++ b := by
  obtain ⟨-, tail, before⟩ := List.pairwise_append.1 rising
  have after := (List.pairwise_cons.1 tail).1
  have kept {y : Notice} (h : y.rank ≠ n.rank) : (!(y.kind == n.kind && y.key == n.key)) = true := by
    simpa [Notice.rank, noticeRank_inj, imp_iff_not_or] using h
  rw [dropNotice, List.filter_append, List.filter_cons_of_neg (by simp),
    List.filter_eq_self.2 fun y hy => kept (before y hy n List.mem_cons_self).ne,
    List.filter_eq_self.2 fun y hy => kept (after y hy).ne']

/-- The first notice of a kind is the one with the lowest key. -/
theorem find?_kind {l : List Notice} {n : Notice} (rising : RisingRanks l) (mem : n ∈ l)
    (lowest : ∀ y ∈ l, y.kind = n.kind → n.key ≤ y.key) : l.find? (fun y => y.kind == n.kind) = some n := by
  obtain ⟨a, b, rfl⟩ := List.append_of_mem mem
  obtain ⟨-, -, before⟩ := List.pairwise_append.1 rising
  refine List.find?_eq_some_iff_append.2 ⟨by simp, a, b, rfl, fun y hy => ?_⟩
  by_contra same
  have kind : y.kind = n.kind := by simpa using same
  have key : n.key.val ≤ y.key.val := lowest y (by simp [hy]) kind
  have rank : y.rank < n.rank := before y hy n List.mem_cons_self
  rw [Notice.rank, Notice.rank, noticeRank, noticeRank, kind] at rank
  omega

/-- The notice first by order and key is chosen (R147). -/
theorem chooseNotice_eq {order : List NoticeKind} {l : List Notice} {n : Notice} (rising : RisingRanks l) (mem : n ∈ l)
    (known : n.kind ∈ order)
    (first : ∀ y ∈ l, order.idxOf n.kind ≤ order.idxOf y.kind ∧ (y.kind = n.kind → n.key ≤ y.key)) :
    chooseNotice order l = some n := by
  obtain ⟨a, b, rfl, fresh⟩ := List.eq_append_cons_of_mem known
  refine List.findSome?_eq_some_iff.2 ⟨a, n.kind, b, rfl, find?_kind rising mem fun y hy => (first y hy).2, ?_⟩
  refine fun k hk => List.find?_eq_none.2 fun y hy same => ?_
  have kind : y.kind = k := by simpa using same
  have later := (first y hy).1
  rw [kind, List.idxOf_append_of_mem hk, List.idxOf_append_of_notMem fresh] at later
  have earlier : a.idxOf k < a.length := List.idxOf_lt_length_iff.2 hk
  omega

/-- Settles O39: the notice named is the one chosen, and it alone is taken. -/
theorem takeNoticeTakesTheFirstByOrder : Obligations.TakeNoticeTakesTheFirstByOrder := by
  intro s x h unique perm
  have effect := exec_completion_of_pass h (by simp [commandChecks])
  refine ⟨fun n mem first => ⟨effect.trans ?_, ?_⟩, fun empty => effect.trans ?_⟩
  · have known : n.kind ∈ (s.master x.master).order := perm.mem_iff.2 (by cases n.kind <;> decide)
    simp only [commandEffect, takeNoticeBody, chooseNotice_eq (unique x.master) mem known first]
    rfl
  · have rising : RisingRanks (s.master x.master).notices := unique x.master
    obtain ⟨a, b, split⟩ := List.append_of_mem mem
    rw [split] at rising ⊢
    have dropped := congrArg List.length (dropNotice_split rising)
    rw [dropNotice] at dropped
    rw [dropped]
    simp only [List.length_append, List.length_cons]
    omega
  · have none : chooseNotice (s.master x.master).order (s.master x.master).notices = none := by
      simp [chooseNotice, empty]
    simp only [commandEffect, takeNoticeBody, none]
    rfl

end Sys2Proof.Machine
end

section
/-! What the operations on slots leave unchanged, and what they do to the notice sets (R16, R17, R144, R145): a calculus of
changes of a set by raised notices and by removed kinds and keys. -/

namespace Sys2Proof.Machine

open Sys2Proof.Safety

/-! ### Changes of windows and notice sets alone -/

/-- The change reaches windows and notice sets alone. -/
structure TablesOnly (s u : State) : Prop where
  master : ∀ m, u.master m = { s.master m with notices := (u.master m).notices }
  port : ∀ m, u.port m = s.port m
  mailbox : ∀ m, u.mailbox m = s.mailbox m
  target : ∀ t, u.target t = s.target t
  engine : u.engine = s.engine
  timer : u.timer = s.timer
  resolverPointer : u.resolverPointer = s.resolverPointer
  drst : u.drst = s.drst
  pending : u.pending = s.pending

namespace TablesOnly

variable {s t u : State}

theorem refl (s : State) : TablesOnly s s :=
  ⟨fun _ => rfl, fun _ => rfl, fun _ => rfl, fun _ => rfl, rfl, rfl, rfl, rfl, rfl⟩

theorem trans (h : TablesOnly s t) (h' : TablesOnly t u) : TablesOnly s u :=
  ⟨fun m => by rw [h'.master m, h.master m], fun m => (h'.port m).trans (h.port m),
    fun m => (h'.mailbox m).trans (h.mailbox m), fun t => (h'.target t).trans (h.target t), h'.engine.trans h.engine,
    h'.timer.trans h.timer, h'.resolverPointer.trans h.resolverPointer, h'.drst.trans h.drst, h'.pending.trans h.pending⟩

theorem state (h : TablesOnly s u) (m : Master) : (u.master m).state = (s.master m).state := by rw [h.master m]

theorem setWindow (i : Slot) (w : Window) (s : State) : TablesOnly s (s.setWindow i w) :=
  ⟨fun _ => rfl, fun _ => rfl, fun _ => rfl, fun _ => rfl, rfl, rfl, rfl, rfl, rfl⟩

theorem setNotices (m : Master) (l : List Notice) (s : State) :
    TablesOnly s (s.setMaster m { s.master m with notices := l }) := by
  refine ⟨fun j => ?_, fun _ => rfl, fun _ => rfl, fun _ => rfl, rfl, rfl, rfl, rfl, rfl⟩
  rw [State.master_setMaster]
  split
  case isTrue e => rw [e]
  case isFalse => rfl

theorem raiseNotice (m : Master) (n : Notice) (s : State) : TablesOnly s (raiseNotice m n s) := setNotices ..

theorem removeNotice (m : Master) (k : NoticeKind) (i : Slot) (s : State) : TablesOnly s (removeNotice m k i s) :=
  setNotices ..

theorem withdrawOffer (i : Slot) (s : State) : TablesOnly s (withdrawOffer i s) := by
  unfold Machine.withdrawOffer
  dsimp only
  split
  · exact .refl s
  · exact ((setWindow ..).trans (removeNotice ..)).trans (raiseNotice ..)

theorem declineOffer (i : Slot) (s : State) : TablesOnly s (declineOffer i s) := by
  unfold Machine.declineOffer
  dsimp only
  split
  · exact .refl s
  · exact ((setWindow ..).trans (removeNotice ..)).trans (raiseNotice ..)

theorem freeSlot (i : Slot) (c : RetireNotice) (s : State) : TablesOnly s (freeSlot i c s) := by
  unfold Machine.freeSlot
  dsimp only
  split
  · exact setWindow ..
  · exact (setWindow ..).trans (raiseNotice ..)

theorem retireAnnounced (c : RetireCause) (i : Slot) (s : State) : TablesOnly s (retireAnnounced c i s) := by
  unfold Machine.retireAnnounced
  dsimp only
  split
  · exact ((withdrawOffer i s).trans (setWindow ..)).trans (raiseNotice ..)
  · exact (withdrawOffer i s).trans (setWindow ..)

theorem retire (c : RetireCause) (i : Slot) (s : State) : TablesOnly s (retire c i s) := by
  rw [retire_eq]
  split
  · exact (retireAnnounced c i s).trans (freeSlot ..)
  · exact (retireAnnounced c i s).trans (setWindow ..)

theorem reactivate (i : Slot) (s : State) : TablesOnly s (reactivate i s) := setWindow ..

theorem lapse (i : Slot) (s : State) : TablesOnly s (lapse i s) :=
  (((withdrawOffer i s).trans (setWindow ..)).trans (removeNotice ..)).trans (raiseNotice ..)

theorem leaseRunsOut (i : Slot) (s : State) : TablesOnly s (leaseRunsOut i s) := by
  unfold Machine.leaseRunsOut
  split
  · exact (removeNotice ..).trans (retire ..)
  · exact lapse i s

theorem leaseCountdown (i : Slot) (s : State) : TablesOnly s (leaseCountdown i s) := by
  unfold Machine.leaseCountdown
  dsimp only
  split
  · exact (setWindow ..).trans (leaseRunsOut ..)
  · split
    · exact ((setWindow ..).trans (setWindow ..)).trans (raiseNotice ..)
    · exact setWindow ..

theorem offerCountdown (i : Slot) (s : State) : TablesOnly s (offerCountdown i s) := by
  unfold Machine.offerCountdown
  dsimp only
  split
  · exact .refl s
  · split
    · exact ((withdrawOffer i s).trans (reactivate ..)).trans (raiseNotice ..)
    · exact setWindow ..

theorem graceCountdown (i : Slot) (s : State) : TablesOnly s (graceCountdown i s) := by
  unfold Machine.graceCountdown
  dsimp only
  split
  · exact (setWindow ..).trans (retire ..)
  · exact setWindow ..

theorem slotTick (i : Slot) (s : State) : TablesOnly s (slotTick i s) := by
  have counted : TablesOnly s (if (s.window i).leasePeriod.isSome then Machine.leaseCountdown i s else s) := by
    split
    · exact leaseCountdown i s
    · exact .refl s
  have offered (t : State) :
      TablesOnly t (if (t.window i).state == .offered then Machine.offerCountdown i t else t) := by
    split
    · exact offerCountdown i t
    · exact .refl t
  unfold Machine.slotTick
  split
  · exact .refl s
  · exact counted
  · exact counted.trans (offered _)
  · exact graceCountdown i s
  · exact .refl s

theorem foldl {f : State → Slot → State} (h : ∀ s i, TablesOnly s (f s i)) (l : List Slot) (s : State) :
    TablesOnly s (l.foldl f s) := by
  induction l generalizing s with
  | nil => exact .refl s
  | cons i l ih => exact (h s i).trans (ih _)

theorem tableTick (s : State) : TablesOnly s (tableTick s) := foldl (fun s i => slotTick i s) _ s

theorem declineOffersTo (n : Master) (s : State) : TablesOnly s (declineOffersTo n s) :=
  foldl (fun s i => by split <;> [exact declineOffer i s; exact .refl s]) _ s

theorem retireWindowsOf (c : RetireCause) (n : Master) (s : State) : TablesOnly s (retireWindowsOf c n s) :=
  foldl (fun s i => by split <;> [exact retire c i s; exact .refl s]) _ s

theorem withdrawOffersOf (n : Master) (s : State) : TablesOnly s (withdrawOffersOf n s) :=
  foldl (fun s i => by split <;> [exact (withdrawOffer i s).trans (reactivate ..); exact .refl s]) _ s

end TablesOnly

/-! ### Changes of a notice set (R144, R145) -/

/-- A notice set changes by the notices raised and the kinds and keys removed: every raised notice is in the new set, every
other notice stays unless its kind and key are removed or raised anew, and a set in its order stays so and holds nothing
else. -/
structure NoticeChange (old new : List Notice) (raised : Notice → Prop) (removed : NoticeKind → Slot → Prop) : Prop where
  gains : ∀ y, raised y → y ∈ new
  stays : ∀ y ∈ old, ¬ removed y.kind y.key → (∀ x, raised x → x.kind = y.kind → x.key = y.key → x = y) → y ∈ new
  set : RisingRanks old → RisingRanks new ∧ SetAfter old new raised removed

namespace NoticeChange

variable {l l' l'' : List Notice} {R R' : Notice → Prop} {D D' : NoticeKind → Slot → Prop}

theorem congr (h : NoticeChange l l' R D) (raised : ∀ y, R' y ↔ R y) (removed : ∀ k i, D' k i ↔ D k i) :
    NoticeChange l l' R' D' := by
  have hR : R' = R := funext fun y => propext (raised y)
  have hD : D' = D := funext fun k => funext fun i => propext (removed k i)
  rw [hR, hD]
  exact h

theorem refl (l : List Notice) : NoticeChange l l (fun _ => False) (fun _ _ => False) :=
  ⟨fun _ h => h.elim, fun _ h _ _ => h, fun rising => ⟨rising, fun y => by simp⟩⟩

theorem insert (n : Notice) (l : List Notice) : NoticeChange l (insertNotice n l) (· = n) (fun _ _ => False) := by
  have stays {y : Notice} (hy : y ∈ l) (other : y.rank ≠ n.rank) : y ∈ insertNotice n l := by
    induction l with
    | nil => cases hy
    | cons x l ih =>
      unfold insertNotice
      obtain rfl | hy := List.mem_cons.1 hy
      · split
        · simp
        · rw [if_neg other.symm]
          exact List.mem_cons_self
      · split
        · simp [hy]
        · split
          · exact List.mem_cons_of_mem _ hy
          · exact List.mem_cons_of_mem _ (ih hy)
  refine ⟨fun y h => h ▸ self_mem_insertNotice n l, fun y hy _ same => ?_, fun rising => ⟨insertNotice_rising rising, ?_⟩⟩
  · by_cases e : y.rank = n.rank
    · obtain ⟨kind, key⟩ := Notice.rank_eq_iff.1 e
      exact same n rfl kind.symm key.symm ▸ self_mem_insertNotice n l
    · exact stays hy e
  · intro y
    rw [mem_insertNotice rising, ne_eq, Notice.rank_eq_iff]
    simp [eq_comm]

theorem drop (k : NoticeKind) (i : Slot) (l : List Notice) :
    NoticeChange l (dropNotice k i l) (fun _ => False) (fun k' i' => k' = k ∧ i' = i) :=
  ⟨fun _ h => h.elim, fun y hy kept _ => mem_dropNotice.2 ⟨hy, kept⟩,
    fun rising => ⟨dropNotice_rising rising, fun y => by simp [mem_dropNotice]⟩⟩

/-- One change after another, the later one neither removing nor raising anew what the first raised. -/
theorem trans (h : NoticeChange l l' R D) (h' : NoticeChange l' l'' R' D')
    (same : ∀ y x, R y → R' x → x.kind = y.kind → x.key = y.key → x = y) (kept : ∀ y, R y → ¬ D' y.kind y.key) :
    NoticeChange l l'' (fun y => R y ∨ R' y) (fun k i => D k i ∨ D' k i) := by
  refine ⟨fun y => ?gains, fun y hy notRemoved alone => ?stays, fun rising => ?set⟩
  case gains =>
    rintro (hy | hy)
    · exact h'.stays y (h.gains y hy) (kept y hy) fun x hx => same y x hy hx
    · exact h'.gains y hy
  case stays =>
    obtain ⟨first, second⟩ := not_or.1 notRemoved
    exact h'.stays y (h.stays y hy first fun x hx => alone x (.inl hx)) second fun x hx => alone x (.inr hx)
  case set =>
    obtain ⟨rising', set⟩ := h.set rising
    obtain ⟨rising'', set'⟩ := h'.set rising'
    refine ⟨rising'', fun y => ?_⟩
    rw [set' y, set y]
    constructor
    · rintro (hy | ⟨hy | ⟨hy, notRemoved, alone⟩, notRemoved', alone'⟩)
      · exact .inl (.inr hy)
      · exact .inl (.inl hy)
      · exact .inr ⟨hy, not_or.2 ⟨notRemoved, notRemoved'⟩, fun x hx => hx.elim (alone x) (alone' x)⟩
    · rintro ((hy | hy) | ⟨hy, notRemoved, alone⟩)
      · by_cases again : ∃ x, R' x ∧ x.kind = y.kind ∧ x.key = y.key
        · obtain ⟨x, hx, kind, key⟩ := again
          exact .inl (same y x hy hx kind key ▸ hx)
        · exact .inr ⟨.inl hy, kept y hy, fun x hx e => again ⟨x, hx, e⟩⟩
      · exact .inl hy
      · obtain ⟨first, second⟩ := not_or.1 notRemoved
        exact .inr ⟨.inr ⟨hy, first, fun x hx => alone x (.inl hx)⟩, second, fun x hx => alone x (.inr hx)⟩

end NoticeChange

/-- The notice sets of all masters change, each by the notices raised to its master and the kinds and keys removed. -/
def Notifies (s u : State) (R : Master → Notice → Prop) (D : Master → NoticeKind → Slot → Prop) : Prop :=
  ∀ m, NoticeChange (s.master m).notices (u.master m).notices (R m) (D m)

namespace Notifies

variable {s t u : State} {R R' : Master → Notice → Prop} {D D' : Master → NoticeKind → Slot → Prop}

theorem congr (h : Notifies s u R D) (raised : ∀ m y, R' m y ↔ R m y) (removed : ∀ m k i, D' m k i ↔ D m k i) :
    Notifies s u R' D' :=
  fun m => (h m).congr (raised m) (removed m)

theorem of_master (h : ∀ m, u.master m = s.master m) : Notifies s u (fun _ _ => False) (fun _ _ _ => False) := fun m => by
  rw [h m]
  exact .refl _

theorem raiseNotice (j : Master) (n : Notice) (s : State) :
    Notifies s (raiseNotice j n s) (fun m y => m = j ∧ y = n) (fun _ _ _ => False) := fun m => by
  rw [raiseNotice_master_notices]
  split
  case isTrue e => exact e ▸ (NoticeChange.insert n _).congr (by simp [e]) (by simp)
  case isFalse other => exact (NoticeChange.refl _).congr (by simp [other]) (by simp)

theorem removeNotice (j : Master) (k : NoticeKind) (i : Slot) (s : State) :
    Notifies s (removeNotice j k i s) (fun _ _ => False) (fun m k' i' => m = j ∧ k' = k ∧ i' = i) := fun m => by
  rw [removeNotice_master_notices]
  split
  case isTrue e => exact e ▸ (NoticeChange.drop k i _).congr (by simp) (by simp [e])
  case isFalse other => exact (NoticeChange.refl _).congr (by simp) (by simp [other])

theorem trans (h : Notifies s t R D) (h' : Notifies t u R' D')
    (same : ∀ m y x, R m y → R' m x → x.kind = y.kind → x.key = y.key → x = y)
    (kept : ∀ m y, R m y → ¬ D' m y.kind y.key) :
    Notifies s u (fun m y => R m y ∨ R' m y) (fun m k i => D m k i ∨ D' m k i) :=
  fun m => (h m).trans (h' m) (same m) (kept m)

/-- A change after one that raised nothing. -/
theorem after_removal (h : Notifies s t (fun _ _ => False) D) (h' : Notifies t u R' D') :
    Notifies s u R' (fun m k i => D m k i ∨ D' m k i) :=
  (h.trans h' (fun _ _ _ no => no.elim) fun _ _ no => no.elim).congr (by simp) (by simp)

/-- A change after one that left the sets alone. -/
theorem after_none (h : ∀ m, t.master m = s.master m) (h' : Notifies t u R D) : Notifies s u R D :=
  (Notifies.after_removal (of_master h) h').congr (by simp) (by simp)

/-- A change before one that leaves the sets alone. -/
theorem before_none (h : Notifies s t R D) (h' : ∀ m, u.master m = t.master m) : Notifies s u R D := fun m => by
  rw [h' m]
  exact h m

/-- A change that happens under a condition. -/
theorem ite {c : Prop} [Decidable c] (h : c → Notifies s u R D) :
    Notifies s (if c then u else s) (fun m y => c ∧ R m y) (fun m k i => c ∧ D m k i) := by
  split
  case isTrue yes => exact (h yes).congr (by simp [yes]) (by simp [yes])
  case isFalse no => exact (of_master fun _ => rfl).congr (by simp [no]) (by simp [no])

end Notifies

end Sys2Proof.Machine
end

section
/-! Retirement and the ends of a lease, a grace and an offer, one slot at a time (R16, R17, R109 to R113). -/

namespace Sys2Proof.Machine

open Sys2Proof.Safety

variable {s : State}

/-! ### Retirement (R16, R17, R20) -/

theorem withdrawOffer_notices (i : Slot) (s : State) (m : Master) :
    ((withdrawOffer i s).master m).notices =
      match (s.window i).offer with
      | some o =>
        if o.recipient = m then
          insertNotice (slotNotice .offerWithdrawn i (s.window i).gen) (dropNotice .offerReceived i (s.master m).notices)
        else (s.master m).notices
      | none => (s.master m).notices := by
  unfold withdrawOffer
  dsimp only
  split
  next none => rw [none]
  next o offer =>
    simp only [offer, raiseNotice_master_notices, removeNotice_master_notices, if_pos, State.master_setWindow,
      eq_comm (a := m)]
    split
    case isTrue e => rw [e]
    case isFalse => rfl

theorem retireAnnounced_notices (c : RetireCause) (i : Slot) (s : State) (m : Master) :
    ((retireAnnounced c i s).master m).notices =
      if m = (s.window i).holder ∧ c.revokes m = true then
        insertNotice (slotNotice .windowRevoked i (s.window i).gen) ((withdrawOffer i s).master m).notices
      else ((withdrawOffer i s).master m).notices := by
  unfold retireAnnounced
  have window : (withdrawOffer i s).window i = { s.window i with offer := none } := by simp
  simp only [window]
  by_cases e : m = (s.window i).holder
  · subst e
    cases c.revokes (s.window i).holder <;> simp
  · cases c.revokes (s.window i).holder <;> simp [e]

theorem retire_notices (c : RetireCause) (i : Slot) (s : State) (m : Master) :
    ((retire c i s).master m).notices =
      if m = (s.window i).holder ∧ (s.window i).inFlight = 0 ∧ c.freeNotice ≠ .none ∧ (s.master m).state ≠ .offline then
        insertNotice (retiredNotice i (s.window i).gen c.freeNotice) ((retireAnnounced c i s).master m).notices
      else ((retireAnnounced c i s).master m).notices := by
  rw [retire_eq]
  by_cases settled : (s.window i).inFlight = 0
  · rw [if_pos settled, freeSlot_notices, retireAnnounced_window, (TablesOnly.retireAnnounced c i s).state]
    refine if_congr ?_ rfl rfl
    simp only [settled, true_and]
    exact ⟨fun ⟨c, e, on⟩ => ⟨e, c, on⟩, fun ⟨e, c, on⟩ => ⟨c, e, on⟩⟩
  · rw [if_neg settled, if_neg fun h => settled h.2.1]
    rfl

theorem RetireCause.revokes_iff {c : RetireCause} {m : Master} :
    c.revokes m = true ↔ (c = .revoke ∧ m ≠ 0) ∨ c = .detach := by
  cases c <;> simp [RetireCause.revokes]

theorem RetireCause.freeNotice_ne_none {c : RetireCause} : c.freeNotice ≠ .none ↔ c = .leaseZero ∨ c = .graceZero := by
  cases c <;> decide

theorem RetireCause.freeNotice_eq {c : RetireCause} (h : c = .leaseZero ∨ c = .graceZero) :
    c.freeNotice = .graceExpired := by
  obtain rfl | rfl := h <;> rfl

/-- Settles O30: the window by its in-flight count, and the sets by the offer, the cause and the holder's state. -/
theorem retirementFollowsItsCause : Obligations.RetirementFollowsItsCause := by
  refine ⟨fun g => ⟨.priv, 0, 0, rfl⟩, ?_⟩
  intro s i c w t note
  have only := TablesOnly.retire c i s
  refine ⟨?_, fun j other => ?_, fun m => ?_, only.port, only.mailbox, only.target, only.engine, only.timer,
    only.resolverPointer, only.drst, only.pending⟩
  · simp only [t, retire_window, if_pos, beq_iff_eq]
    cases c <;> rfl
  · simp only [t, retire_window, if_neg other]
  · refine (only.master m).trans (congrArg (fun l => { s.master m with notices := l }) ?_)
    have first : (c = .leaseZero ∨ c = .graceZero) →
        retiredNotice i w.gen c.freeNotice = { kind := .windowRetired, key := i, gen := w.gen, cause := .graceExpired } :=
      fun h => by rw [RetireCause.freeNotice_eq h]; rfl
    simp only [retire_notices, retireAnnounced_notices, withdrawOffer_notices, RetireCause.revokes_iff,
      RetireCause.freeNotice_ne_none]
    exact ite_congr rfl (fun raised => congrArg (insertNotice · _) (first raised.2.2.1)) fun _ => rfl

/-! ### The end of a lease (R109 to R111) -/

theorem exec_leaseExpiry {i : Slot} (released : s.drst = false)
    (due : (s.window i).state = .active ∨ (s.window i).state = .offered)
    (leased : (s.window i).leasePeriod.isSome = true) (last : (s.window i).leaseRemaining = 1) :
    exec (.leaseExpiry i) s =
      .next (leaseRunsOut i (s.setWindow i { s.window i with leaseRemaining := 0 })) := by
  have leaseDue : leaseDue (s.window i) = true := by
    obtain h | h := due <;> simp [Machine.leaseDue, h, leased, last]
  simp [exec, execLeaseExpiry, released, leaseDue, leaseCountdown, last]

theorem leaseRunsOut_of_grace {i : Slot} (h : s.timer.grace ≠ 0) : leaseRunsOut i s = lapse i s := if_neg h

theorem lapse_window (i : Slot) (s : State) (j : Slot) :
    (lapse i s).window j =
      if j = i then
        { s.window i with
          state := .lapsed, leaseRemaining := 0, warned := false, graceRemaining := s.timer.grace, offer := none }
      else s.window j := by
  simp only [lapse, raiseNotice_window, removeNotice_window, State.window_setWindow, withdrawOffer_window, if_pos,
    withdrawOffer_timer]
  split
  case isTrue => rfl
  case isFalse => rfl

theorem lapse_notices (i : Slot) (s : State) (m : Master) :
    ((lapse i s).master m).notices =
      if m = (s.window i).holder then
        insertNotice (slotNotice .leaseLapsed i (s.window i).gen)
          (dropNotice .leaseWarning i ((withdrawOffer i s).master m).notices)
      else ((withdrawOffer i s).master m).notices := by
  have window : (withdrawOffer i s).window i = { s.window i with offer := none } := by simp
  simp only [lapse, window]
  by_cases e : m = (s.window i).holder
  · subst e
    simp
  · simp [e]

theorem lapse_of_no_offer {i : Slot} (none : (s.window i).offer = none) :
    lapse i s =
      raiseNotice (s.window i).holder (slotNotice .leaseLapsed i (s.window i).gen)
        (removeNotice (s.window i).holder .leaseWarning i
          (s.setWindow i
            { s.window i with
              state := .lapsed, leaseRemaining := 0, warned := false, graceRemaining := s.timer.grace })) := by
  have unchanged : withdrawOffer i s = s := by simp only [withdrawOffer, none]
  simp only [lapse, unchanged]

/-- Settles O45: a lease at its last tick lapses the window, or retires it with grace 0. -/
theorem leaseExpiryLapsesOrRetires : Obligations.LeaseExpiryLapsesOrRetires := by
  rintro s i _ released rfl leased last note lapsed
  obtain ⟨run, hrun⟩ : ∃ run, run = s.setWindow i { s.window i with leaseRemaining := 0 } := ⟨_, rfl⟩
  have window : run.window i = { s.window i with leaseRemaining := 0 } := by simp [hrun]
  have run_only : TablesOnly s run := hrun ▸ .setWindow ..
  have ends (due : (s.window i).state = .active ∨ (s.window i).state = .offered) :
      exec (.leaseExpiry i) s = .next (leaseRunsOut i run) := hrun ▸ exec_leaseExpiry released due leased last
  have lapses (grace : s.timer.grace ≠ 0) : leaseRunsOut i run = lapse i run :=
    leaseRunsOut_of_grace (by rwa [run_only.timer])
  refine ⟨fun grace active none => ?_, fun o grace offered offer => ?_, fun grace state => ?_⟩
  · rw [ends (.inl active), lapses grace, lapse_of_no_offer (by rw [window]; exact none), window, hrun,
      State.setWindow_setWindow]
    simp only [lapsed, none]
    rfl
  · have only := run_only.trans (.lapse i run)
    refine ⟨lapse i run, ?_, fun j => ?_, fun m => ?_, only.master, only.port, only.mailbox, only.target, only.engine,
      only.timer, only.resolverPointer, only.drst, only.pending⟩
    · rw [ends (.inr offered), lapses grace]
    · rw [lapse_window, window, run_only.timer, hrun, State.window_setWindow]
      split
      case isTrue => rfl
      case isFalse => rfl
    · rw [lapse_notices, withdrawOffer_notices, window, hrun]
      simp only [offer, eq_comm (a := m) (b := o.recipient)]
      rfl
  · rw [ends state, leaseRunsOut, if_pos (by rwa [run_only.timer]), window, hrun]

/-- Settles O46: a grace at its last tick, and an offer at its own. -/
theorem graceExpiryAndOfferExpiry : Obligations.GraceExpiryAndOfferExpiry := by
  rintro s i _ released rfl note
  refine ⟨fun lapsed last => ?_, fun o offered offer last => ⟨_, ?_, rfl⟩⟩
  · simp [exec, execGraceExpiry, released, lapsed, last, graceCountdown]
  · simp only [exec, execOfferExpiry, released, offered, offer, last, offerCountdown]
    rw [reactivate_withdrawOffer offer]
    rfl

end Sys2Proof.Machine
end

section
/-! What visits of every slot make of the windows and of the notice sets: the declined and withdrawn offers and the
retirements of DETACH and of a master reset (R129, R159, R163). -/

namespace Sys2Proof.Machine

open Sys2Proof.Safety

variable {s u : State}

/-! ### One slot at a time -/

/-- OFFER_WITHDRAWN as the end of an offer raises it to the recipient. -/
def Window.Withdrawn (w : Window) (i : Slot) (m : Master) (y : Notice) : Prop :=
  (∃ o ∈ w.offer, m = o.recipient) ∧ y = slotNotice .offerWithdrawn i w.gen

/-- OFFER_RECEIVED as the end of an offer removes it from the recipient's set. -/
def Window.Received (w : Window) (i : Slot) (m : Master) (k : NoticeKind) (j : Slot) : Prop :=
  k = .offerReceived ∧ j = i ∧ ∃ o ∈ w.offer, m = o.recipient

theorem withdrawOffer_notifies (i : Slot) (s : State) :
    Notifies s (withdrawOffer i s) ((s.window i).Withdrawn i) ((s.window i).Received i) := by
  unfold withdrawOffer
  dsimp only
  split
  next none =>
    exact (Notifies.of_master fun _ => rfl).congr (by simp [Window.Withdrawn, none]) (by simp [Window.Received, none])
  next o offer =>
    refine (Notifies.after_none (fun _ => rfl)
      ((Notifies.removeNotice _ _ _ _).after_removal (.raiseNotice _ _ _))).congr ?_ ?_
    · simp [Window.Withdrawn, offer]
    · simp only [Window.Received, offer, or_false]
      simp only [Option.mem_def, Option.some.injEq, exists_eq_left']
      exact fun m k j => ⟨fun ⟨a, b, c⟩ => ⟨c, a, b⟩, fun ⟨c, a, b⟩ => ⟨a, b, c⟩⟩

/-- OFFER_DECLINED as the end of an offer raises it to the holder. -/
def Window.Declined (w : Window) (i : Slot) (m : Master) (y : Notice) : Prop :=
  w.offer.isSome = true ∧ m = w.holder ∧ y = slotNotice .offerDeclined i w.gen

theorem declineOffer_notifies (i : Slot) (s : State) :
    Notifies s (declineOffer i s) ((s.window i).Declined i) ((s.window i).Received i) := by
  unfold declineOffer
  dsimp only
  split
  next none =>
    exact (Notifies.of_master fun _ => rfl).congr (by simp [Window.Declined, none]) (by simp [Window.Received, none])
  next o offer =>
    refine (Notifies.after_none (fun _ => rfl)
      ((Notifies.removeNotice _ _ _ _).after_removal (.raiseNotice _ _ _))).congr ?_ ?_
    · simp [Window.Declined, offer]
    · simp only [Window.Received, offer, or_false]
      simp only [Option.mem_def, Option.some.injEq, exists_eq_left']
      exact fun m k j => ⟨fun ⟨a, b, c⟩ => ⟨c, a, b⟩, fun ⟨c, a, b⟩ => ⟨a, b, c⟩⟩

/-- The notices a retirement raises (R16, R17): OFFER_WITHDRAWN, WINDOW_REVOKED, and WINDOW_RETIRED to a holder that is not
OFFLINE. -/
def Window.Retires (w : Window) (c : RetireCause) (offline : Prop) (i : Slot) (m : Master) (y : Notice) : Prop :=
  w.Withdrawn i m y ∨ (m = w.holder ∧ c.revokes m = true ∧ y = slotNotice .windowRevoked i w.gen) ∨
    (m = w.holder ∧ w.inFlight = 0 ∧ c.freeNotice ≠ .none ∧ ¬ offline ∧ y = retiredNotice i w.gen c.freeNotice)

namespace NoticeChange

variable {l l' : List Notice} {R : Notice → Prop} {D : NoticeKind → Slot → Prop}

/-- A notice of another kind is raised after a change, under a condition. -/
theorem then_insert (h : NoticeChange l l' R D) (c : Prop) [Decidable c] (n : Notice)
    (kinds : ∀ y, R y → n.kind ≠ y.kind) :
    NoticeChange l (if c then insertNotice n l' else l') (fun y => R y ∨ (c ∧ y = n)) D := by
  split
  case isTrue yes =>
    refine (h.trans (.insert n l') (fun y x hy hx kind _ => ?_) fun _ _ no => no).congr (by simp [yes]) (by simp)
    exact absurd (hx ▸ kind) (kinds y hy)
  case isFalse no => exact h.congr (by simp [no]) fun _ _ => Iff.rfl

/-- A kind that was not raised is removed after a change, under a condition. -/
theorem then_drop (h : NoticeChange l l' R D) (c : Prop) [Decidable c] (k : NoticeKind) (i : Slot)
    (kinds : ∀ y, R y → k ≠ y.kind) :
    NoticeChange l (if c then dropNotice k i l' else l') R (fun k' i' => D k' i' ∨ (c ∧ k' = k ∧ i' = i)) := by
  split
  case isTrue yes =>
    exact (h.trans (.drop k i l') (fun _ _ _ no => no.elim) fun y hy gone => kinds y hy gone.1.symm).congr
      (by simp) (by simp [yes])
  case isFalse no => exact h.congr (fun _ => Iff.rfl) (by simp [no])

end NoticeChange

theorem Window.Withdrawn.kind {w : Window} {i : Slot} {m : Master} {y : Notice} (h : w.Withdrawn i m y) :
    y.kind = .offerWithdrawn := by rw [h.2]; rfl

theorem retire_notifies (c : RetireCause) (i : Slot) (s : State) :
    Notifies s (retire c i s) (fun m => (s.window i).Retires c ((s.master m).state = .offline) i m)
      ((s.window i).Received i) := fun m => by
  have announced := (withdrawOffer_notifies i s m).then_insert (m = (s.window i).holder ∧ c.revokes m = true)
    (slotNotice .windowRevoked i (s.window i).gen) fun y hy => by rw [hy.kind]; nofun
  rw [← retireAnnounced_notices] at announced
  have retired := announced.then_insert
    (m = (s.window i).holder ∧ (s.window i).inFlight = 0 ∧ c.freeNotice ≠ .none ∧ (s.master m).state ≠ .offline)
    (retiredNotice i (s.window i).gen c.freeNotice) fun y hy => by
      obtain hy | ⟨-, rfl⟩ := hy
      · rw [hy.kind]; nofun
      · nofun
  rw [← retire_notices] at retired
  refine retired.congr (fun y => ?_) fun _ _ => Iff.rfl
  simp only [Window.Retires, and_assoc, or_assoc, ne_eq]

/-! ### Every slot in turn -/

/-- Visits of slots, each of which changes the sets by notices on its own slot, change them by all those notices. -/
theorem foldl_notifies {f : State → Slot → State} {s₀ : State} {R : Slot → Master → Notice → Prop}
    {D : Slot → Master → NoticeKind → Slot → Prop} (keyed : ∀ i m y, R i m y → y.key = i)
    (keyedD : ∀ i m k j, D i m k j → j = i)
    (visit : ∀ s i, TablesOnly s₀ s → s.window i = s₀.window i → Notifies s (f s i) (R i) (D i))
    (other : ∀ s i j, j ≠ i → (f s i).window j = s.window j) (only : ∀ s i, TablesOnly s (f s i)) (l : List Slot)
    (distinct : l.Nodup) (s : State) (so : TablesOnly s₀ s) (same : ∀ i ∈ l, s.window i = s₀.window i) :
    Notifies s (l.foldl f s) (fun m y => ∃ i ∈ l, R i m y) (fun m k j => ∃ i ∈ l, D i m k j) := by
  induction l generalizing s with
  | nil => exact (Notifies.of_master fun _ => rfl).congr (by simp) (by simp)
  | cons i l ih =>
    obtain ⟨fresh, distinct⟩ := List.nodup_cons.1 distinct
    obtain ⟨here, later⟩ := List.forall_mem_cons.1 same
    have apart {j : Slot} (hj : j ∈ l) : j ≠ i := fun e => fresh (e ▸ hj)
    have rest := ih distinct (f s i) (so.trans (only s i)) fun j hj => (other s i j (apart hj)).trans (later j hj)
    refine ((visit s i so here).trans rest ?_ ?_).congr (by simp) (by simp)
    · rintro m y x hy ⟨j, hj, hx⟩ - key
      exact absurd ((keyed j m x hx).symm.trans (key.trans (keyed i m y hy))) (apart hj)
    · rintro m y hy ⟨j, hj, gone⟩
      exact apart hj ((keyedD j m _ _ gone).symm.trans (keyed i m y hy))

theorem foldl_allSlots_notifies {f : State → Slot → State} {R : Slot → Master → Notice → Prop}
    {D : Slot → Master → NoticeKind → Slot → Prop} (keyed : ∀ i m y, R i m y → y.key = i)
    (keyedD : ∀ i m k j, D i m k j → j = i)
    (visit : ∀ t i, TablesOnly s t → t.window i = s.window i → Notifies t (f t i) (R i) (D i))
    (other : ∀ s i j, j ≠ i → (f s i).window j = s.window j) (only : ∀ s i, TablesOnly s (f s i)) :
    Notifies s (allSlots.foldl f s) (fun m y => ∃ i, R i m y) (fun m k j => ∃ i, D i m k j) :=
  (foldl_notifies keyed keyedD visit other only allSlots (List.nodup_finRange 32) s (.refl s) fun _ _ => rfl).congr
    (by simp [allSlots]) (by simp [allSlots])

/-! ### Declined offers (R129) -/

theorem declineOffersTo_window (n : Master) (s : State) (j : Slot) :
    (declineOffersTo n s).window j =
      if (s.window j).offeredTo n = true then { s.window j with offer := none, state := .active } else s.window j := by
  refine foldl_allSlots_window
    (R := fun w v => v = if w.offeredTo n = true then { w with offer := none, state := .active } else w)
    (fun s i => ?_) (fun s i j other => ?_) s j
  · split
    case isTrue named =>
      obtain ⟨o, offer, -⟩ := Window.offeredTo_iff.1 named
      rw [declineOffer_window, if_pos ⟨rfl, Option.isSome_iff_exists.2 ⟨o, offer⟩⟩]
    case isFalse => rfl
  · split
    · simp [other]
    · rfl

theorem declineOffersTo_notifies (n : Master) (s : State) :
    Notifies s (declineOffersTo n s)
      (fun m y => ∃ i, (s.window i).offeredTo n = true ∧ (s.window i).Declined i m y)
      (fun m k j => ∃ i, (s.window i).offeredTo n = true ∧ (s.window i).Received i m k j) := by
  refine foldl_allSlots_notifies (fun i m y h => by rw [h.2.2.2]; rfl) (fun i m k j h => h.2.2.1)
    (fun t i _ window => ?_) (fun s i j other => ?_) fun s i => ?_
  · simp only [← window]
    exact .ite fun _ => declineOffer_notifies i t
  · split
    · simp [other]
    · rfl
  · split
    · exact .declineOffer i s
    · exact .refl s

/-! ### Retirements and withdrawn offers of one master (R129, R163) -/

theorem retire_window_self (c : RetireCause) (i : Slot) (s : State) :
    (retire c i s).window i = retiredWindow c.drainNotice (s.window i) := by
  rw [retire_window, if_pos rfl]
  simp only [beq_iff_eq]
  rfl

theorem retireWindowsOf_window (c : RetireCause) (n : Master) (s : State) (j : Slot) :
    (retireWindowsOf c n s).window j =
      if (s.window j).retirableOf n = true then retiredWindow c.drainNotice (s.window j) else s.window j := by
  refine foldl_allSlots_window
    (R := fun w v => v = if w.retirableOf n = true then retiredWindow c.drainNotice w else w)
    (fun s i => ?_) (fun s i j other => ?_) s j
  · split
    · exact retire_window_self c i s
    · rfl
  · split
    · simp [retire_window, other]
    · rfl

theorem retireWindowsOf_notifies (c : RetireCause) (n : Master) (s : State) :
    Notifies s (retireWindowsOf c n s)
      (fun m y => ∃ i, (s.window i).retirableOf n = true ∧
        (s.window i).Retires c ((s.master m).state = .offline) i m y)
      (fun m k j => ∃ i, (s.window i).retirableOf n = true ∧ (s.window i).Received i m k j) := by
  refine foldl_allSlots_notifies (fun i m y h => ?_) (fun i m k j h => h.2.2.1)
    (fun t i only window => ?_) (fun s i j other => ?_) fun s i => ?_
  · obtain ⟨-, ⟨-, rfl⟩ | ⟨-, -, rfl⟩ | ⟨-, -, -, -, rfl⟩⟩ := h <;> rfl
  · simp only [← window, ← only.state]
    exact .ite fun _ => retire_notifies c i t
  · split
    · simp [retire_window, other]
    · rfl
  · split
    · exact .retire c i s
    · exact .refl s

theorem withdrawOffersOf_window (n : Master) (s : State) (j : Slot) :
    (withdrawOffersOf n s).window j =
      if (s.window j).retirableOf n = true ∧ (s.window j).offer.isSome = true then
        { s.window j with offer := none, state := .active }
      else s.window j := by
  refine foldl_allSlots_window
    (R := fun w v => v = if w.retirableOf n = true ∧ w.offer.isSome = true then { w with offer := none, state := .active }
      else w)
    (fun s i => ?_) (fun s i j other => ?_) s j
  · simp only [Bool.and_eq_true]
    split
    · simp
    · rfl
  · split
    · simp [other]
    · rfl

theorem withdrawOffersOf_notifies (n : Master) (s : State) :
    Notifies s (withdrawOffersOf n s)
      (fun m y => ∃ i, ((s.window i).retirableOf n = true ∧ (s.window i).offer.isSome = true) ∧
        (s.window i).Withdrawn i m y)
      (fun m k j => ∃ i, ((s.window i).retirableOf n = true ∧ (s.window i).offer.isSome = true) ∧
        (s.window i).Received i m k j) := by
  refine foldl_allSlots_notifies (fun i m y h => by rw [h.2.2]; rfl) (fun i m k j h => h.2.2.1)
    (fun t i _ window => ?_) (fun s i j other => ?_) fun s i => ?_
  · simp only [← window, ← Bool.and_eq_true]
    exact .ite fun _ => (withdrawOffer_notifies i t).before_none fun _ => rfl
  · split
    · simp [other]
    · rfl
  · split
    · exact (TablesOnly.withdrawOffer i s).trans (.reactivate ..)
    · exact .refl s

end Sys2Proof.Machine
end

section
/-! DETACH (R159) and the master reset line (R43, R44, R80, R163): how the offers and windows of one master are unwound. -/

namespace Sys2Proof.Machine

open Sys2Proof.Safety

variable {s u : State} {n : Master}

/-! ### The unwinding of one master -/

/-- No offer names the holder of its own window (R120). -/
def HonestOffers (s : State) : Prop := ∀ i, ∀ o ∈ (s.window i).offer, o.recipient ≠ (s.window i).holder

theorem honestOffers_of_offerLaw (law : OfferLaw s) (windows : ∀ i, u.window i = s.window i) : HonestOffers u := by
  intro i o offer
  rw [windows] at offer ⊢
  exact ((law i).2 o offer).1

/-- A window offered to a master is not one of the master's own. -/
theorem HonestOffers.not_retirableOf (honest : HonestOffers s) {i : Slot} (named : (s.window i).offeredTo n = true) :
    (s.window i).holder ≠ n := by
  obtain ⟨o, offer, rfl⟩ := Window.offeredTo_iff.1 named
  exact (honest i o offer).symm

/-- Once the offers to a master are declined its own windows stand as before. -/
theorem declined_own_iff (honest : HonestOffers s) {P : Window → Prop} (i : Slot) :
    (((declineOffersTo n s).window i).retirableOf n = true ∧ P ((declineOffersTo n s).window i)) ↔
      (s.window i).retirableOf n = true ∧ P (s.window i) := by
  rw [declineOffersTo_window]
  split
  case isTrue named =>
    have other := honest.not_retirableOf named
    simp [Window.retirableOf, other]
  case isFalse => rfl

/-- What the end of the offers to a master and of its own offers does to the sets of the others, and to its own: `own`
is what it is told itself. -/
theorem unwound_notices (honest : HonestOffers s) {own : Slot → Window → Notice → Prop}
    (kinds : ∀ i w y, own i w y → y.kind ≠ .offerDeclined)
    (h : Notifies (declineOffersTo n s) u
      (fun m y => ∃ i, ((declineOffersTo n s).window i).retirableOf n = true ∧
        (((declineOffersTo n s).window i).Withdrawn i m y ∨ (m = n ∧ own i ((declineOffersTo n s).window i) y)))
      (fun m k j => ∃ i, ((declineOffersTo n s).window i).retirableOf n = true ∧
        ((declineOffersTo n s).window i).Received i m k j)) :
    Notifies s u
      (fun m y => ∃ i,
        ((s.window i).offeredTo n = true ∧ m = (s.window i).holder ∧
          y = slotNotice .offerDeclined i (s.window i).gen) ∨
        ((s.window i).retirableOf n = true ∧ (s.window i).Withdrawn i m y) ∨
        ((s.window i).retirableOf n = true ∧ m = n ∧ own i (s.window i) y))
      (fun m k i => k = .offerReceived ∧
        (((s.window i).offeredTo n = true ∧ m = n) ∨
          ((s.window i).retirableOf n = true ∧ ∃ o ∈ (s.window i).offer, m = o.recipient))) := by
  have unwound : Notifies (declineOffersTo n s) u
      (fun m y => ∃ i, (s.window i).retirableOf n = true ∧
        ((s.window i).Withdrawn i m y ∨ (m = n ∧ own i (s.window i) y)))
      (fun m k j => ∃ i, (s.window i).retirableOf n = true ∧ (s.window i).Received i m k j) :=
    h.congr
      (fun m y => exists_congr fun i =>
        (declined_own_iff honest (P := fun w => w.Withdrawn i m y ∨ (m = n ∧ own i w y)) i).symm)
      fun m k j => exists_congr fun i => (declined_own_iff honest (P := fun w => w.Received i m k j) i).symm
  refine ((declineOffersTo_notifies n s).trans unwound ?_ ?_).congr (fun m y => ?_) fun m k j => ?_
  · rintro m y x ⟨i, -, -, -, rfl⟩ ⟨j, -, withdrawn | ⟨-, told⟩⟩ kind -
    · rw [withdrawn.kind] at kind
      cases kind
    · exact absurd kind (kinds j _ x told)
  · rintro m y ⟨i, -, -, -, rfl⟩ ⟨j, -, kind, -⟩
    cases kind
  · constructor
    · rintro ⟨i, ⟨named, holder, rfl⟩ | ⟨mine, withdrawn⟩ | ⟨mine, rfl, told⟩⟩
      · obtain ⟨o, offer, -⟩ := Window.offeredTo_iff.1 named
        exact .inl ⟨i, named, Option.isSome_iff_exists.2 ⟨o, offer⟩, holder, rfl⟩
      · exact .inr ⟨i, mine, .inl withdrawn⟩
      · exact .inr ⟨i, mine, .inr ⟨rfl, told⟩⟩
    · rintro (⟨i, named, -, holder, rfl⟩ | ⟨i, mine, withdrawn | ⟨rfl, told⟩⟩)
      · exact ⟨i, .inl ⟨named, holder, rfl⟩⟩
      · exact ⟨i, .inr (.inl ⟨mine, withdrawn⟩)⟩
      · exact ⟨i, .inr (.inr ⟨mine, rfl, told⟩)⟩
  · constructor
    · rintro ⟨rfl, ⟨named, rfl⟩ | ⟨mine, recipient⟩⟩
      · obtain ⟨o, offer, rfl⟩ := Window.offeredTo_iff.1 named
        exact .inl ⟨j, named, rfl, rfl, o, offer, rfl⟩
      · exact .inr ⟨j, mine, rfl, rfl, recipient⟩
    · rintro (⟨i, named, rfl, rfl, o, offer, rfl⟩ | ⟨i, mine, rfl, rfl, recipient⟩)
      · obtain ⟨o', offer', rfl⟩ := Window.offeredTo_iff.1 named
        obtain rfl := Option.some.inj (offer.symm.trans offer')
        exact ⟨rfl, .inl ⟨named, rfl⟩⟩
      · exact ⟨rfl, .inr ⟨mine, recipient⟩⟩

/-- To the other masters, only the offers are told of. -/
theorem unwound_notices_of_ne {own : Slot → Window → Notice → Prop} {m : Master} (other : m ≠ n)
    (h : Notifies s u
      (fun m y => ∃ i,
        ((s.window i).offeredTo n = true ∧ m = (s.window i).holder ∧
          y = slotNotice .offerDeclined i (s.window i).gen) ∨
        ((s.window i).retirableOf n = true ∧ (s.window i).Withdrawn i m y) ∨
        ((s.window i).retirableOf n = true ∧ m = n ∧ own i (s.window i) y))
      (fun m k i => k = .offerReceived ∧
        (((s.window i).offeredTo n = true ∧ m = n) ∨
          ((s.window i).retirableOf n = true ∧ ∃ o ∈ (s.window i).offer, m = o.recipient)))) :
    NoticeChange (s.master m).notices (u.master m).notices
      (fun y => ∃ i,
        ((s.window i).offeredTo n = true ∧ m = (s.window i).holder ∧
          y = slotNotice .offerDeclined i (s.window i).gen) ∨
        ((s.window i).retirableOf n = true ∧ (∃ o ∈ (s.window i).offer, m = o.recipient) ∧
          y = slotNotice .offerWithdrawn i (s.window i).gen))
      (fun k i => k = .offerReceived ∧ (s.window i).retirableOf n = true ∧
        ∃ o ∈ (s.window i).offer, m = o.recipient) :=
  (h m).congr (fun y => by simp only [other, false_and, and_false, or_false]; rfl)
    fun k i => by simp only [other, and_false, false_or]

/-! ### DETACH (R159) -/

theorem countP_decide {p : Slot → Prop} [DecidablePred p] {f : Slot → Bool} (h : ∀ i, f i = true ↔ p i) :
    (List.finRange 32).countP f = (List.finRange 32).countP fun i => decide (p i) :=
  List.countP_congr fun i _ => by rw [decide_eq_true_iff, h]

theorem retires_detach_iff {w : Window} {offline : Prop} {i : Slot} {m : Master} {y : Notice} :
    w.Retires .detach offline i m y ↔ w.Withdrawn i m y ∨ (m = w.holder ∧ y = slotNotice .windowRevoked i w.gen) := by
  simp [Window.Retires, RetireCause.revokes, RetireCause.freeNotice]

/-- The holder of a window retired as one of a master is that master. -/
theorem holder_of_retirableOf {w : Window} (h : w.retirableOf n = true) : w.holder = n :=
  (Window.retirableOf_iff.1 h).2.1

theorem detachTables_notifies (honest : HonestOffers s) :
    Notifies (madeOffline n s) (detachTables n s)
      (fun m y => ∃ i,
        ((s.window i).offeredTo n = true ∧ m = (s.window i).holder ∧
          y = slotNotice .offerDeclined i (s.window i).gen) ∨
        ((s.window i).retirableOf n = true ∧ (s.window i).Withdrawn i m y) ∨
        ((s.window i).retirableOf n = true ∧ m = n ∧ y = slotNotice .windowRevoked i (s.window i).gen))
      (fun m k i => k = .offerReceived ∧
        (((s.window i).offeredTo n = true ∧ m = n) ∨
          ((s.window i).retirableOf n = true ∧ ∃ o ∈ (s.window i).offer, m = o.recipient))) := by
  refine unwound_notices (s := madeOffline n s) (own := fun i w y => y = slotNotice .windowRevoked i w.gen) honest
    (fun i w y h => by rw [h]; nofun) ?_
  refine (retireWindowsOf_notifies .detach n _).congr (fun m y => exists_congr fun i => and_congr_right fun mine => ?_)
    fun _ _ _ => Iff.rfl
  rw [retires_detach_iff, holder_of_retirableOf mine]

theorem detachTables_only (n : Master) (s : State) : TablesOnly (madeOffline n s) (detachTables n s) :=
  (TablesOnly.declineOffersTo n _).trans (.retireWindowsOf .detach n _)

@[simp] theorem detachMailbox_resolverPointer (n : Master) (s : State) :
    (detachMailbox n s).resolverPointer = s.resolverPointer := by
  unfold detachMailbox; split <;> rfl

@[simp] theorem detachMailbox_drst (n : Master) (s : State) : (detachMailbox n s).drst = s.drst := by
  unfold detachMailbox; split <;> rfl

@[simp] theorem detachMailbox_pending (n : Master) (s : State) : (detachMailbox n s).pending = s.pending := by
  unfold detachMailbox; split <;> rfl

/-- The windows of a master retired, and those offered to it back with their holders. -/
theorem retired_and_declined_window (honest : HonestOffers s) (c : RetireCause) (i : Slot) :
    (retireWindowsOf c n (declineOffersTo n s)).window i =
      if (s.window i).retirableOf n = true then retiredWindow c.drainNotice (s.window i)
      else if (s.window i).offeredTo n = true then { s.window i with state := .active, offer := none }
      else s.window i := by
  rw [retireWindowsOf_window]
  split
  case isTrue own =>
    obtain ⟨mine, same⟩ := (declined_own_iff honest (P := fun w => (declineOffersTo n s).window i = w) i).1 ⟨own, rfl⟩
    rw [if_pos mine, same]
  case isFalse foreign =>
    rw [if_neg fun mine => foreign ((declined_own_iff honest (P := fun _ => True) i).2 ⟨mine, trivial⟩).1,
      declineOffersTo_window]

/-- A set that was empty holds what was raised. -/
theorem NoticeChange.mem_of_nil {l : List Notice} {R : Notice → Prop} {D : NoticeKind → Slot → Prop}
    (h : NoticeChange [] l R D) (y : Notice) : y ∈ l ↔ R y := by
  rw [(h.set List.Pairwise.nil).2 y]
  simp

/-- Settles O42: the checks pass, and the three steps on the tables unwind the master. -/
theorem detachTakesTheMasterOffline : Obligations.DetachTakesTheMasterOffline := by
  intro s x n law h supervisor word user online ended mine
  obtain ⟨named, -⟩ := masterParam_field word
  have pass : ∀ c ∈ commandChecks .detach x.master x.params s, c.1 = true := by
    simp only [commandChecks, detachChecks, List.forall_mem_cons, named]
    exact ⟨by rw [supervisor]; rfl, masterInRange_of_field word, by simpa using online, by simpa using user, by simp⟩
  have honest : HonestOffers s := honestOffers_of_offerLaw law fun _ => rfl
  have notifies := detachTables_notifies (n := n) honest
  have only := detachTables_only n s
  have ended_iff (i : Slot) : (s.window i).offeredTo n = true ↔ ended i := Window.offeredTo_iff
  have mine_iff (i : Slot) : (s.window i).retirableOf n = true ↔ mine i := Window.retirableOf_iff
  have retired : s.retirableCount n = (List.finRange 32).countP fun i => decide (mine i) := countP_decide mine_iff
  have draining : s.drainingCount n =
      (List.finRange 32).countP fun i => decide (mine i ∧ (s.window i).inFlight ≠ 0) :=
    countP_decide fun i => by rw [Bool.and_eq_true, mine_iff, bne_iff_ne]
  have declined : s.offersTo n = (List.finRange 32).countP fun i => decide (ended i) := countP_decide ended_iff
  have empty : ((madeOffline n s).master n).notices = [] := by simp [madeOffline]
  have unreached (m : Master) (other : m ≠ n) : (madeOffline n s).master m = s.master m := by simp [madeOffline, other]
  refine ⟨detachMailbox n (detachTables n s), (exec_completion_of_pass h pass).trans ?command, fun i => ?windows,
    fun y => ?own, ?record, fun m other => ?others, fun i e => ?declined, fun i e o offer => ?withdrawn,
    fun unique m other => ?sets, ?mailbox, fun m other => ?mailboxes, fun m => ?ports, fun t => ?targets, ?engine, ?timer,
    ?resolver, ?drst, ?pending⟩
  case command =>
    simp only [commandEffect, named, retired, draining, declined, detachEffect_eq]
    rfl
  case windows =>
    rw [detachMailbox_window, detachTables, retired_and_declined_window (s := madeOffline n s) honest]
    exact if_congr (mine_iff i) rfl (if_congr (ended_iff i) rfl rfl)
  case own =>
    have change := notifies n
    rw [empty] at change
    rw [detachMailbox_master, change.mem_of_nil y]
    refine exists_congr fun i => ⟨?_, fun ⟨e, told⟩ => .inr (.inr ⟨(mine_iff i).2 e, rfl, told⟩)⟩
    rintro (⟨offered, holder, -⟩ | ⟨own, ⟨o, offer, recipient⟩, -⟩ | ⟨own, -, told⟩)
    · exact absurd holder.symm (honest.not_retirableOf offered)
    · exact absurd (recipient.symm.trans (holder_of_retirableOf own).symm) (honest i o offer)
    · exact ⟨(mine_iff i).1 own, told⟩
  case record =>
    rw [detachMailbox_master, only.master n]
    simp [madeOffline]
  case others =>
    rw [detachMailbox_master, only.master m, unreached m other]
  case declined =>
    rw [detachMailbox_master]
    exact (notifies _).gains _ ⟨i, .inl ⟨(ended_iff i).2 e, rfl, rfl⟩⟩
  case withdrawn =>
    rw [detachMailbox_master]
    exact (notifies _).gains _ ⟨i, .inr (.inl ⟨(mine_iff i).2 e, ⟨o, offer, rfl⟩, rfl⟩)⟩
  case sets =>
    have change := unwound_notices_of_ne (own := fun i w y => y = slotNotice .windowRevoked i w.gen) other notifies
    rw [unreached m other] at change
    simp only [Window.offeredTo_iff, Window.retirableOf_iff] at change
    rw [detachMailbox_master]
    exact (change.set (unique m)).2
  case mailbox =>
    rw [detachMailbox_mailbox, only.mailbox]
    exact if_congr (and_iff_right rfl) rfl rfl
  case mailboxes => rw [detachMailbox_mailbox, if_neg fun h => other h.1, only.mailbox]; rfl
  case ports => rw [detachMailbox_port, only.port]; rfl
  case targets => rw [detachMailbox_target, only.target]; rfl
  case engine => rw [detachMailbox_engine, only.engine]; rfl
  case timer => rw [detachMailbox_timer, only.timer]; rfl
  case resolver => rw [detachMailbox_resolverPointer, only.resolverPointer]; rfl
  case drst => rw [detachMailbox_drst, only.drst]; rfl
  case pending => rw [detachMailbox_pending, only.pending]; rfl

end Sys2Proof.Machine
end

section
/-! The master reset line (R43, R44, R80, R163). -/

namespace Sys2Proof.Machine

open Sys2Proof.Safety

variable {s : State} {n : Master}

/-! ### The port, the mailbox and the record (R43, R80, R163 steps 1 and 2) -/

/-- The assertion of a master reset line before the offers and windows of its master (R43, R80, R163 steps 1 and 2). -/
def lineReset (n : Master) (s : State) : State :=
  resetNotices n (resetMailboxOf n (s.setPort n (s.port n).assertReset))

theorem discarded_iff {p : MasterPort} {t : Tag} : p.discarded t = true ↔
    (∃ r ∈ p.unresolved, r.tag = t) ∨ (∃ r ∈ p.aperture, r.tag = t) ∨ ∃ r ∈ p.responses, r.tag = t := by
  simp [MasterPort.discarded, or_assoc]

theorem assertReset_tag (p : MasterPort) (t : Tag) :
    p.assertReset.tags[t] = if p.tags[t] = .free ∨ p.discarded t = true then .free else .inUse true := by
  simp [MasterPort.assertReset]

theorem lineReset_window (n : Master) (s : State) (i : Slot) : (lineReset n s).window i = s.window i :=
  resetMailboxOf_window ..

theorem lineReset_master_self (n : Master) (s : State) :
    (lineReset n s).master n =
      { s.master n with faultRecord := none, notices := [], order := defaultOrder, enables := allEnables } := by
  rw [lineReset, resetNotices, State.master_setMaster, if_pos rfl, resetMailboxOf_master]
  rfl

theorem lineReset_master_of_ne {m : Master} (other : m ≠ n) : (lineReset n s).master m = s.master m := by
  rw [lineReset, resetNotices, State.master_setMaster, if_neg other, resetMailboxOf_master]
  rfl

theorem lineReset_port (n : Master) (s : State) (m : Master) :
    (lineReset n s).port m = if m = n then (s.port n).assertReset else s.port m :=
  (resetMailboxOf_port ..).trans (State.port_setPort ..)

theorem lineReset_mailbox (n : Master) (s : State) (m : Master) :
    (lineReset n s).mailbox m = if m = n then resetMailbox else s.mailbox m :=
  resetMailboxOf_mailbox ..

theorem lineReset_engine (n : Master) (s : State) :
    (lineReset n s).engine =
      if (s.mailbox n).state = .executing then
        { s.engine with execution := s.engine.execution.map fun x => { x with orphan := true } }
      else s.engine :=
  resetMailboxOf_engine ..

theorem lineReset_rest (n : Master) (s : State) :
    (∀ t, (lineReset n s).target t = s.target t) ∧ (lineReset n s).timer = s.timer ∧
      (lineReset n s).resolverPointer = s.resolverPointer ∧ (lineReset n s).drst = s.drst ∧
      (lineReset n s).pending = s.pending := by
  unfold lineReset resetMailboxOf
  dsimp only
  split
  · exact ⟨fun _ => rfl, rfl, rfl, rfl, rfl⟩
  · exact ⟨fun _ => rfl, rfl, rfl, rfl, rfl⟩

/-! ### The windows and the notices (R163 steps 3 and 4) -/

theorem disposeWindows_only (n : Master) (s : State) : TablesOnly s (disposeWindows n s) := by
  unfold disposeWindows
  split
  · exact .retireWindowsOf ..
  · exact .withdrawOffersOf ..

theorem retires_masterReset_iff {w : Window} {offline : Prop} {i : Slot} {m : Master} {y : Notice} :
    w.Retires .masterReset offline i m y ↔ w.Withdrawn i m y := by
  simp [Window.Retires, RetireCause.revokes, RetireCause.freeNotice]

/-- Whatever the disposition, the offers of the master are withdrawn, and nothing else is told. -/
theorem disposeWindows_notifies (n : Master) (s : State) :
    Notifies s (disposeWindows n s)
      (fun m y => ∃ i, (s.window i).retirableOf n = true ∧ ((s.window i).Withdrawn i m y ∨ (m = n ∧ False)))
      (fun m k j => ∃ i, (s.window i).retirableOf n = true ∧ (s.window i).Received i m k j) := by
  simp only [and_false, or_false]
  unfold disposeWindows
  split
  · exact (retireWindowsOf_notifies .masterReset n s).congr
      (fun m y => exists_congr fun i => and_congr_right fun _ => retires_masterReset_iff.symm) fun _ _ _ => Iff.rfl
  · refine (withdrawOffersOf_notifies n s).congr (fun m y => exists_congr fun i => ?_)
      fun m k j => exists_congr fun i => ?_
    · refine ⟨fun ⟨mine, told⟩ => ⟨⟨mine, ?_⟩, told⟩, fun ⟨⟨mine, _⟩, told⟩ => ⟨mine, told⟩⟩
      obtain ⟨⟨o, offer, -⟩, -⟩ := told
      exact Option.isSome_iff_exists.2 ⟨o, offer⟩
    · refine ⟨fun ⟨mine, gone⟩ => ⟨⟨mine, ?_⟩, gone⟩, fun ⟨⟨mine, _⟩, gone⟩ => ⟨mine, gone⟩⟩
      obtain ⟨-, -, o, offer, -⟩ := gone
      exact Option.isSome_iff_exists.2 ⟨o, offer⟩

/-- The windows once the offers to the master are declined and its own disposed of. -/
theorem disposed_window (honest : HonestOffers s) (marked : ∀ i, (s.window i).OfferMarked) (i : Slot) :
    (disposeWindows n (declineOffersTo n s)).window i =
      if (s.window i).retirableOf n = true then
        if (s.master n).disposition = .release then retiredWindow .drainDone (s.window i)
        else if (s.window i).state = .offered then { s.window i with state := .active, offer := none }
        else s.window i
      else if (s.window i).offeredTo n = true then { s.window i with state := .active, offer := none }
      else s.window i := by
  have disposition : ((declineOffersTo n s).master n).disposition = (s.master n).disposition := by
    rw [(TablesOnly.declineOffersTo n s).master n]
  unfold disposeWindows
  split
  next release =>
    rw [retired_and_declined_window honest]
    simp only [disposition.symm.trans release, if_true]
    rfl
  next keep =>
    have kept : ¬ (s.master n).disposition = .release := by rw [← disposition, keep]; nofun
    rw [withdrawOffersOf_window, if_neg kept]
    by_cases mine : (s.window i).retirableOf n = true
    · have same := ((declined_own_iff honest (P := fun w => w = s.window i) i).2 ⟨mine, rfl⟩).2
      rw [same, if_pos mine]
      exact if_congr ((and_iff_right mine).trans (marked i).symm) rfl rfl
    · rw [if_neg mine, if_neg fun own => mine ((declined_own_iff honest (P := fun _ => True) i).1 ⟨own.1, trivial⟩).1,
        declineOffersTo_window]

/-- Settles O47: the line resets the port, the mailbox and the record, and the tables are unwound. -/
theorem masterResetUnwindsOneMaster : Obligations.MasterResetUnwindsOneMaster := by
  refine fun s n => ⟨fun law line => ?asserted, fun line => ?deasserted⟩
  case deasserted =>
    have waits : ((s.port n).outstanding != 0) = if (s.port n).outstanding = 0 then false else true := by
      split
      case isTrue idle => rw [idle]; rfl
      case isFalse busy => exact bne_iff_ne.2 busy
    simp only [exec, execMasterResetDeassertion, line, if_true, MasterPort.deassertReset, waits]
  case asserted =>
    intro ended mine untaken
    have honest : HonestOffers (lineReset n s) := honestOffers_of_offerLaw law (lineReset_window n s)
    have marked (i : Slot) : ((lineReset n s).window i).OfferMarked := by
      rw [lineReset_window]
      exact (law i).1
    have only := (TablesOnly.declineOffersTo n (lineReset n s)).trans (disposeWindows_only n _)
    have notifies := unwound_notices (own := fun _ _ _ => False) honest (fun _ _ _ no => no.elim)
      (disposeWindows_notifies n (declineOffersTo n (lineReset n s)))
    simp only [lineReset_window] at notifies
    have ended_iff (i : Slot) : (s.window i).offeredTo n = true ↔ ended i := Window.offeredTo_iff
    have mine_iff (i : Slot) : (s.window i).retirableOf n = true ↔ mine i := Window.retirableOf_iff
    have port := (only.port n).trans ((lineReset_port n s n).trans (if_pos rfl))
    obtain ⟨targets, timer, resolver, drst, pending⟩ := lineReset_rest n s
    refine ⟨disposeWindows n (declineOffersTo n (lineReset n s)), execMasterReset_of_deasserted line,
      fun t => ?tags, ?port, ?mailbox, ?engine, ?record, fun i => ?windows, fun m other => ⟨?others, ?ports, ?mailboxes⟩,
      fun i e => ?declined, fun i e o offer => ?withdrawn, fun unique m other => ?sets, fun t => (only.target t).trans (targets t),
      only.timer.trans timer, only.resolverPointer.trans resolver, only.drst.trans drst, only.pending.trans pending⟩
    case tags =>
      rw [port, assertReset_tag]
      exact if_congr (or_congr_right discarded_iff) rfl rfl
    case port => rw [port]; rfl
    case mailbox => rw [only.mailbox, lineReset_mailbox, if_pos rfl]
    case engine => rw [only.engine, lineReset_engine]
    case record =>
      have silent : ((disposeWindows n (declineOffersTo n (lineReset n s))).master n).notices = [] := by
        have change := notifies n
        rw [lineReset_master_self] at change
        refine List.eq_nil_iff_forall_not_mem.2 fun y hy => ?_
        obtain ⟨i, ⟨offered, holder, -⟩ | ⟨own, ⟨o, offer, recipient⟩, -⟩ | ⟨-, -, no⟩⟩ := (change.mem_of_nil y).1 hy
        · exact ((lineReset_window n s i ▸ honest.not_retirableOf (i := i)) offered) holder.symm
        · exact ((law i).2 o offer).1 (recipient.symm.trans (holder_of_retirableOf own).symm)
        · exact no
      rw [only.master n, silent, lineReset_master_self]
      rfl
    case windows =>
      rw [disposed_window honest marked, lineReset_window, lineReset_master_self]
      exact if_congr (mine_iff i) rfl (if_congr (ended_iff i) rfl rfl)
    case others => rw [only.master m, lineReset_master_of_ne other]
    case ports => rw [only.port m, lineReset_port, if_neg other]
    case mailboxes => rw [only.mailbox m, lineReset_mailbox, if_neg other]
    case declined => exact (notifies _).gains _ ⟨i, .inl ⟨(ended_iff i).2 e, rfl, rfl⟩⟩
    case withdrawn => exact (notifies _).gains _ ⟨i, .inr (.inl ⟨(mine_iff i).2 e, ⟨o, offer, rfl⟩, rfl⟩)⟩
    case sets =>
      have change := notifies m
      rw [lineReset_master_of_ne other] at change
      simp only [other, Window.offeredTo_iff, Window.retirableOf_iff, Window.Withdrawn, and_false, or_false,
        false_or] at change
      exact (change.set (unique m)).2

end Sys2Proof.Machine
end

section
/-! One tick of the lease timer (R105, R108 to R113): what it makes of each window, and of the notice sets. -/

namespace Sys2Proof.Machine

open Sys2Proof.Safety

variable {s t u : State} {R : Master → Notice → Prop} {D : Master → NoticeKind → Slot → Prop}

/-! ### Windows -/

theorem leaseRunsOut_window (i : Slot) (s : State) (j : Slot) :
    (leaseRunsOut i s).window j =
      if j = i then
        if s.timer.grace = 0 then retiredWindow .graceExpired (s.window i)
        else
          { s.window i with
            state := .lapsed, leaseRemaining := 0, warned := false, graceRemaining := s.timer.grace, offer := none }
      else s.window j := by
  unfold leaseRunsOut
  split
  · rw [retire_window, removeNotice_window, removeNotice_window]
    simp only [beq_iff_eq]
    rfl
  · rw [lapse_window]

/-- The lease countdown of a leased window (R109). -/
theorem leaseCountdown_window (i : Slot) (s : State) (leased : (s.window i).leasePeriod.isSome = true) (j : Slot) :
    (leaseCountdown i s).window j =
      if j = i then windowAfterTick.counted s.timer (s.window i) else s.window j := by
  unfold leaseCountdown
  rw [windowAfterTick.counted, if_pos leased]
  dsimp only
  by_cases ends : (s.window i).leaseRemaining - 1 = 0
  · rw [if_pos ends, if_pos ends, leaseRunsOut_window, State.window_setWindow, State.window_setWindow, if_pos rfl]
    by_cases e : j = i
    · rw [if_pos e, if_pos e]
      rfl
    · rw [if_neg e, if_neg e, if_neg e]
  · rw [if_neg ends, if_neg ends]
    split
    case isTrue warns =>
      have near : (s.window i).leaseRemaining - 1 ≤ s.timer.margin := warns.1
      have warned : ((s.window i).warned || decide ((s.window i).leaseRemaining - 1 ≤ s.timer.margin)) = true := by
        rw [decide_eq_true near, Bool.or_true]
      rw [raiseNotice_window, State.setWindow_setWindow, State.window_setWindow, warned]
    case isFalse calm =>
      have warned : ((s.window i).warned || decide ((s.window i).leaseRemaining - 1 ≤ s.timer.margin)) =
          (s.window i).warned := by
        by_cases near : (s.window i).leaseRemaining - 1 ≤ s.timer.margin
        · rw [Bool.eq_true_of_not_eq_false fun no => calm ⟨near, no⟩, Bool.true_or]
        · rw [decide_eq_false near, Bool.or_false]
      rw [State.window_setWindow, warned]

/-- The lease countdown where the window is leased. -/
def leasePart (i : Slot) (s : State) : State :=
  if (s.window i).leasePeriod.isSome = true then leaseCountdown i s else s

theorem leasePart_window (i : Slot) (s : State) (j : Slot) :
    (leasePart i s).window j = if j = i then windowAfterTick.counted s.timer (s.window i) else s.window j := by
  unfold leasePart
  split
  case isTrue leased => exact leaseCountdown_window i s leased j
  case isFalse free =>
    rw [windowAfterTick.counted, if_neg free]
    split
    case isTrue e => rw [e]
    case isFalse => rfl

/-- The offer countdown (R113). -/
def Window.offerCounted (w : Window) : Window :=
  match w.offer with
  | none => w
  | some o =>
    if o.ticks - 1 = 0 then { w with state := .active, offer := none }
    else { w with offer := some { o with ticks := o.ticks - 1 } }

theorem offerCountdown_window (i : Slot) (s : State) (j : Slot) :
    (offerCountdown i s).window j = if j = i then (s.window i).offerCounted else s.window j := by
  cases offer : (s.window i).offer with
  | none =>
    simp only [offerCountdown, Window.offerCounted, offer]
    split
    case isTrue e => rw [e]
    case isFalse => rfl
  | some o =>
    simp only [offerCountdown, Window.offerCounted, offer]
    by_cases ends : o.ticks - 1 = 0
    · rw [if_pos ends, if_pos ends, reactivate_withdrawOffer offer, raiseNotice_window, raiseNotice_window,
        removeNotice_window, State.window_setWindow]
    · rw [if_neg ends, if_neg ends, State.window_setWindow]

theorem graceCountdown_window (i : Slot) (s : State) (j : Slot) :
    (graceCountdown i s).window j =
      if j = i then
        if (s.window i).graceRemaining - 1 = 0 then retiredWindow .graceExpired (s.window i)
        else { s.window i with graceRemaining := (s.window i).graceRemaining - 1 }
      else s.window j := by
  unfold graceCountdown
  dsimp only
  split
  · rw [retire_window, State.window_setWindow, State.window_setWindow, if_pos rfl]
    simp only [beq_iff_eq]
    split
    · rfl
    · rfl
  · rw [State.window_setWindow]

/-- The countdowns of a window by its state (R108). -/
theorem slotTick_eq (i : Slot) (s : State) :
    slotTick i s =
      match (s.window i).state with
      | .free => s
      | .active => leasePart i s
      | .offered =>
        if ((leasePart i s).window i).state = .offered then offerCountdown i (leasePart i s) else leasePart i s
      | .lapsed => graceCountdown i s
      | .draining => s := by
  unfold slotTick leasePart
  cases (s.window i).state <;> simp only [beq_iff_eq]

/-- A lease that does not end leaves the state and the offer of its window. -/
theorem counted_of_running {timer : LeaseTimer} {w : Window}
    (h : ¬(w.leasePeriod.isSome = true ∧ w.leaseRemaining - 1 = 0)) :
    (windowAfterTick.counted timer w).state = w.state ∧ (windowAfterTick.counted timer w).offer = w.offer ∧
      (windowAfterTick.counted timer w).holder = w.holder ∧ (windowAfterTick.counted timer w).gen = w.gen := by
  unfold windowAfterTick.counted
  split
  case isTrue leased =>
    rw [if_neg fun ends => h ⟨leased, ends⟩]
    exact ⟨rfl, rfl, rfl, rfl⟩
  case isFalse => exact ⟨rfl, rfl, rfl, rfl⟩

/-- A lease that ends leaves no OFFERED window. -/
theorem counted_of_ending {timer : LeaseTimer} {w : Window} (h : w.leasePeriod.isSome = true ∧ w.leaseRemaining - 1 = 0) :
    (windowAfterTick.counted timer w).state ≠ .offered := by
  unfold windowAfterTick.counted retiredWindow
  rw [if_pos h.1, if_pos h.2]
  split
  · split
    · nofun
    · nofun
  · nofun

theorem slotTick_window_self (i : Slot) (s : State) :
    (slotTick i s).window i = windowAfterTick s.timer (s.window i) := by
  rw [slotTick_eq]
  unfold windowAfterTick
  split
  next state => rw [state]
  next state => simp only [state, leasePart_window, if_pos]
  next state =>
    have counted : (leasePart i s).window i = windowAfterTick.counted s.timer (s.window i) := by
      rw [leasePart_window, if_pos rfl]
    simp only [state]
    rw [counted]
    by_cases ends : (s.window i).leasePeriod.isSome = true ∧ (s.window i).leaseRemaining - 1 = 0
    · rw [if_neg (counted_of_ending ends), if_pos ends, counted]
    · obtain ⟨same, offer, -⟩ := counted_of_running (timer := s.timer) ends
      rw [if_pos (same.trans state), if_neg ends, offerCountdown_window, if_pos rfl, counted, Window.offerCounted,
        offer] <;> rfl
  next state => simp only [state, graceCountdown_window, if_pos]
  next state => rw [state]

theorem slotTick_window_of_ne (i : Slot) (s : State) {j : Slot} (other : j ≠ i) :
    (slotTick i s).window j = s.window j := by
  rw [slotTick_eq]
  split
  · rfl
  · rw [leasePart_window, if_neg other]
  · split
    · rw [offerCountdown_window, if_neg other, leasePart_window, if_neg other]
    · rw [leasePart_window, if_neg other]
  · rw [graceCountdown_window, if_neg other]
  · rfl

theorem tableTick_window (s : State) (j : Slot) : (tableTick s).window j = windowAfterTick s.timer (s.window j) := by
  have visits : ∀ (l : List Slot), l.Nodup → ∀ t, TablesOnly s t →
      (l.foldl (fun s i => slotTick i s) t).window j =
        if j ∈ l then windowAfterTick s.timer (t.window j) else t.window j := by
    intro l
    induction l with
    | nil => simp
    | cons i l ih =>
      intro distinct t only
      obtain ⟨fresh, distinct⟩ := List.nodup_cons.1 distinct
      rw [List.foldl_cons, ih distinct _ (only.trans (.slotTick i t))]
      by_cases e : j = i
      · subst e
        rw [if_neg fresh, if_pos List.mem_cons_self, slotTick_window_self, only.timer]
      · rw [slotTick_window_of_ne i t e]
        simp [e]
  exact (visits allSlots (List.nodup_finRange 32) s (.refl s)).trans (if_pos (List.mem_finRange j))

/-! ### Notices -/

namespace Notifies

/-- A notice of another kind is raised after a change. -/
theorem then_raise (h : Notifies s t R D) (j : Master) (n : Notice) (kinds : ∀ m y, R m y → n.kind ≠ y.kind) :
    Notifies s (Machine.raiseNotice j n t) (fun m y => R m y ∨ (m = j ∧ y = n)) D := fun m => by
  rw [raiseNotice_master_notices, ite_congr rfl (fun e : m = j => by rw [← e]) fun _ => rfl]
  exact (h m).then_insert (m = j) n (kinds m)

/-- A kind that was not raised is removed after a change. -/
theorem then_remove (h : Notifies s t R D) (j : Master) (k : NoticeKind) (i : Slot) (kinds : ∀ m y, R m y → k ≠ y.kind) :
    Notifies s (Machine.removeNotice j k i t) R (fun m k' i' => D m k' i' ∨ (m = j ∧ k' = k ∧ i' = i)) := fun m => by
  rw [removeNotice_master_notices, ite_congr rfl (fun e : m = j => by rw [← e]) fun _ => rfl]
  exact (h m).then_drop (m = j) k i (kinds m)

end Notifies

/-- LEASE_WARNING as the end of a lease removes it from the holder's set. -/
def Window.Unwarned (w : Window) (i : Slot) (m : Master) (k : NoticeKind) (j : Slot) : Prop :=
  k = .leaseWarning ∧ j = i ∧ m = w.holder

theorem lapse_notifies (i : Slot) (s : State) :
    Notifies s (lapse i s)
      (fun m y => (s.window i).Withdrawn i m y ∨
        (m = (s.window i).holder ∧ y = slotNotice .leaseLapsed i (s.window i).gen))
      (fun m k j => (s.window i).Received i m k j ∨ (s.window i).Unwarned i m k j) := by
  have window : (withdrawOffer i s).window i = { s.window i with offer := none } := by simp
  unfold lapse
  simp only [window]
  refine ((((withdrawOffer_notifies i s).before_none fun _ => rfl).then_remove _ _ _ fun m y hy => ?_).then_raise _ _
    fun m y hy => ?_).congr (fun _ _ => Iff.rfl) fun m k j => ?_
  · rw [hy.kind]; nofun
  · rw [hy.kind]; nofun
  · unfold Window.Unwarned
    tauto

/-- What the end of a lease raises (R109 to R111), by the grace setting. -/
def Window.RunsOut (w : Window) (grace : Nat) (offline : Prop) (i : Slot) (m : Master) (y : Notice) : Prop :=
  (grace ≠ 0 ∧ m = w.holder ∧ y = slotNotice .leaseLapsed i w.gen) ∨ w.Withdrawn i m y ∨
    (grace = 0 ∧ m = w.holder ∧ w.inFlight = 0 ∧ ¬ offline ∧ y = retiredNotice i w.gen .graceExpired)

theorem leaseRunsOut_notifies (i : Slot) (s : State) :
    Notifies s (leaseRunsOut i s)
      (fun m => (s.window i).RunsOut s.timer.grace ((s.master m).state = .offline) i m)
      (fun m k j => (s.window i).Received i m k j ∨ (s.window i).Unwarned i m k j) := by
  unfold leaseRunsOut Window.RunsOut
  split
  case isTrue zero =>
    refine ((Notifies.removeNotice _ _ _ s).after_removal (retire_notifies .leaseZero i _)).congr (fun m y => ?_)
      fun m k j => ?_
    · simp [Window.Retires, RetireCause.revokes, RetireCause.freeNotice, zero]
    · rw [removeNotice_window, Window.Unwarned]
      tauto
  case isFalse positive =>
    refine (lapse_notifies i s).congr (fun m y => ?_) fun _ _ _ => Iff.rfl
    simp only [positive, not_false_eq_true, true_and, false_and, or_false, ne_eq]
    exact or_comm

theorem leaseCountdown_notifies (i : Slot) (s : State) :
    Notifies s (leaseCountdown i s)
      (fun m y =>
        ((s.window i).leaseRemaining - 1 = 0 ∧
          (s.window i).RunsOut s.timer.grace ((s.master m).state = .offline) i m y) ∨
        (((s.window i).leaseRemaining - 1 ≠ 0 ∧ (s.window i).leaseRemaining - 1 ≤ s.timer.margin ∧
          (s.window i).warned = false) ∧ m = (s.window i).holder ∧ y = slotNotice .leaseWarning i (s.window i).gen))
      (fun m k j => (s.window i).leaseRemaining - 1 = 0 ∧
        ((s.window i).Received i m k j ∨ (s.window i).Unwarned i m k j)) := by
  unfold leaseCountdown
  dsimp only
  by_cases ends : (s.window i).leaseRemaining - 1 = 0
  · rw [if_pos ends]
    have run := Notifies.after_none (s := s) (fun _ => rfl)
      (leaseRunsOut_notifies i (s.setWindow i { s.window i with leaseRemaining := (s.window i).leaseRemaining - 1 }))
    simp only [State.window_setWindow, if_pos] at run
    refine run.congr (fun m y => ?_) fun m k j => ?_
    · simp only [ends, ne_eq, not_true, true_and, false_and, or_false]
      rfl
    · simp only [ends, true_and]
      rfl
  · rw [if_neg ends]
    simp only [ends, ne_eq, not_false_eq_true, true_and, false_and, false_or]
    split
    case isTrue warns =>
      exact (Notifies.after_none (fun _ => rfl) (.raiseNotice _ _ _)).congr
        (fun m y => ⟨fun h => h.2, fun h => ⟨warns, h⟩⟩) fun _ _ _ => Iff.rfl
    case isFalse calm =>
      exact (Notifies.of_master fun _ => rfl).congr (fun m y => ⟨fun h => calm h.1, False.elim⟩) fun _ _ _ => Iff.rfl

/-- The offer of a window comes to its last tick (R113). -/
def Window.OfferExpires (w : Window) : Prop := ∃ o ∈ w.offer, o.ticks - 1 = 0

theorem offerCountdown_notifies (i : Slot) (s : State) :
    Notifies s (offerCountdown i s)
      (fun m y => (s.window i).OfferExpires ∧
        ((s.window i).Withdrawn i m y ∨ (m = (s.window i).holder ∧ y = slotNotice .offerExpired i (s.window i).gen)))
      (fun m k j => (s.window i).OfferExpires ∧ (s.window i).Received i m k j) := by
  unfold offerCountdown
  dsimp only
  split
  next none =>
    exact (Notifies.of_master fun _ => rfl).congr
      (by simp [Window.OfferExpires, none]) (by simp [Window.OfferExpires, none])
  next o offer =>
    have expires : (s.window i).OfferExpires ↔ o.ticks - 1 = 0 := by simp [Window.OfferExpires, offer]
    simp only [expires]
    split
    case isTrue last =>
      refine (((withdrawOffer_notifies i s).before_none fun _ => rfl).then_raise _ _ fun m y hy => ?_).congr
        (by simp [last]) (by simp [last])
      rw [hy.kind]; nofun
    case isFalse running => exact (Notifies.of_master fun _ => rfl).congr (by simp [running]) (by simp [running])

theorem graceCountdown_notifies (i : Slot) (s : State) :
    Notifies s (graceCountdown i s)
      (fun m y => (s.window i).graceRemaining - 1 = 0 ∧
        (s.window i).Retires .graceZero ((s.master m).state = .offline) i m y)
      (fun m k j => (s.window i).graceRemaining - 1 = 0 ∧ (s.window i).Received i m k j) := by
  unfold graceCountdown
  dsimp only
  split
  case isTrue ends =>
    have gone := Notifies.after_none (s := s) (fun _ => rfl)
      (retire_notifies .graceZero i
        (s.setWindow i { s.window i with graceRemaining := (s.window i).graceRemaining - 1 }))
    simp only [State.window_setWindow, if_pos] at gone
    refine gone.congr (fun m y => ?_) fun m k j => ?_
    · simp only [ends, true_and]
      rfl
    · simp only [ends, true_and]
      rfl
  case isFalse running => exact (Notifies.of_master fun _ => rfl).congr (by simp [running]) (by simp [running])

/-- The notices that the tick of one slot raises: those of its lease, of its grace and of its offer. -/
def Window.TickRaises (w : Window) (timer : LeaseTimer) (offline : Prop) (i : Slot) (m : Master) (y : Notice) : Prop :=
  (LeaseEnds w ∧ w.RunsOut timer.grace offline i m y) ∨
  (LeaseWarns timer w ∧ m = w.holder ∧ y = slotNotice .leaseWarning i w.gen) ∨
  (GraceEnds w ∧ w.Retires .graceZero offline i m y) ∨
  ((w.state = .offered ∧ ¬ LeaseEnds w ∧ w.OfferExpires) ∧
    (w.Withdrawn i m y ∨ (m = w.holder ∧ y = slotNotice .offerExpired i w.gen)))

/-- The kinds and keys that the tick of one slot removes. -/
def Window.TickRemoves (w : Window) (i : Slot) (m : Master) (k : NoticeKind) (j : Slot) : Prop :=
  (LeaseEnds w ∧ (w.Received i m k j ∨ w.Unwarned i m k j)) ∨ (GraceEnds w ∧ w.Received i m k j) ∨
  ((w.state = .offered ∧ ¬ LeaseEnds w ∧ w.OfferExpires) ∧ w.Received i m k j)

/-- The lease countdown of a window in ACTIVE or OFFERED. -/
theorem leasePart_notifies (i : Slot) (s : State)
    (due : (s.window i).state = .active ∨ (s.window i).state = .offered) :
    Notifies s (leasePart i s)
      (fun m y =>
        (LeaseEnds (s.window i) ∧ (s.window i).RunsOut s.timer.grace ((s.master m).state = .offline) i m y) ∨
        (LeaseWarns s.timer (s.window i) ∧ m = (s.window i).holder ∧ y = slotNotice .leaseWarning i (s.window i).gen))
      (fun m k j => LeaseEnds (s.window i) ∧ ((s.window i).Received i m k j ∨ (s.window i).Unwarned i m k j)) := by
  refine (Notifies.ite fun _ => leaseCountdown_notifies i s).congr (fun m y => ?_) fun m k j => ?_
  · simp only [LeaseEnds, LeaseWarns, due, true_and, and_assoc, and_or_left]
  · simp only [LeaseEnds, due, true_and, and_assoc]

theorem slotTick_notifies (i : Slot) (s : State) :
    Notifies s (slotTick i s) (fun m => (s.window i).TickRaises s.timer ((s.master m).state = .offline) i m)
      ((s.window i).TickRemoves i) := by
  rw [slotTick_eq]
  unfold Window.TickRaises Window.TickRemoves
  have quiet (state : (s.window i).state ≠ .active ∧ (s.window i).state ≠ .offered) :
      ¬ LeaseEnds (s.window i) ∧ ¬ LeaseWarns s.timer (s.window i) :=
    ⟨fun ends => ends.1.elim state.1 state.2, fun warns => warns.1.elim state.1 state.2⟩
  split
  next free =>
    obtain ⟨noEnd, noWarning⟩ := quiet (by simp [free])
    exact (Notifies.of_master fun _ => rfl).congr (by simp [noEnd, noWarning, GraceEnds, free])
      (by simp [noEnd, GraceEnds, free])
  next active =>
    exact (leasePart_notifies i s (.inl active)).congr (by simp [GraceEnds, active]) (by simp [GraceEnds, active])
  next offered =>
    have lease := leasePart_notifies i s (.inr offered)
    have counted : (leasePart i s).window i = windowAfterTick.counted s.timer (s.window i) := by
      rw [leasePart_window, if_pos rfl]
    rw [counted]
    by_cases ends : LeaseEnds (s.window i)
    · rw [if_neg (counted_of_ending ends.2)]
      exact lease.congr (by simp [ends, GraceEnds, offered]) (by simp [ends, GraceEnds, offered])
    · obtain ⟨state, offer, holder, gen⟩ := counted_of_running (timer := s.timer) fun last => ends ⟨.inr offered, last⟩
      rw [if_pos (state.trans offered)]
      have countdown := offerCountdown_notifies i (leasePart i s)
      simp only [Window.Withdrawn, Window.Received, Window.OfferExpires, counted, offer, holder, gen] at countdown
      refine (lease.trans countdown ?_ ?_).congr (fun m y => ?_) fun m k j => ?_
      · rintro m y x (⟨now, -⟩ | ⟨-, -, rfl⟩) ⟨-, ⟨-, rfl⟩ | ⟨-, rfl⟩⟩ kind -
        · exact absurd now ends
        · exact absurd now ends
        · cases kind
        · cases kind
      · rintro m y (⟨now, -⟩ | ⟨-, -, rfl⟩) ⟨-, kind, -⟩
        · exact absurd now ends
        · cases kind
      · simp only [ends, offered, GraceEnds, reduceCtorEq, false_and, false_or, not_false_eq_true, true_and]
        rfl
      · simp only [ends, offered, GraceEnds, reduceCtorEq, false_and, false_or, not_false_eq_true, true_and]
        rfl
  next lapsed =>
    obtain ⟨noEnd, noWarning⟩ := quiet (by simp [lapsed])
    exact (graceCountdown_notifies i s).congr (by simp [noEnd, noWarning, GraceEnds, lapsed])
      (by simp [noEnd, GraceEnds, lapsed])
  next draining =>
    obtain ⟨noEnd, noWarning⟩ := quiet (by simp [draining])
    exact (Notifies.of_master fun _ => rfl).congr (by simp [noEnd, noWarning, GraceEnds, draining])
      (by simp [noEnd, GraceEnds, draining])

theorem Window.TickRaises.key {w : Window} {timer : LeaseTimer} {offline : Prop} {i : Slot} {m : Master} {y : Notice}
    (h : w.TickRaises timer offline i m y) : y.key = i := by
  obtain ⟨-, ⟨-, -, rfl⟩ | ⟨-, rfl⟩ | ⟨-, -, -, -, rfl⟩⟩ | ⟨-, -, rfl⟩ |
    ⟨-, ⟨-, rfl⟩ | ⟨-, -, rfl⟩ | ⟨-, -, -, -, rfl⟩⟩ | ⟨-, ⟨-, rfl⟩ | ⟨-, rfl⟩⟩ := h <;> rfl

theorem Window.TickRemoves.key {w : Window} {i : Slot} {m : Master} {k : NoticeKind} {j : Slot}
    (h : w.TickRemoves i m k j) : j = i := by
  obtain ⟨-, ⟨-, key, -⟩ | ⟨-, key, -⟩⟩ | ⟨-, -, key, -⟩ | ⟨-, -, key, -⟩ := h <;> exact key

theorem tableTick_notifies (s : State) :
    Notifies s (tableTick s)
      (fun m y => ∃ i, (s.window i).TickRaises s.timer ((s.master m).state = .offline) i m y)
      (fun m k j => ∃ i, (s.window i).TickRemoves i m k j) := by
  refine foldl_allSlots_notifies (fun i m y h => h.key) (fun i m k j h => h.key) (fun t i only window => ?_)
    (fun s i j other => slotTick_window_of_ne i s other) fun s i => .slotTick i s
  simp only [← window, ← only.timer, ← only.state]
  exact slotTick_notifies i t

/-! ### The tick (R105, R108 to R113) -/

/-- Under the offer law a LAPSED window has no offer. -/
theorem no_offer_of_graceEnds (law : OfferLaw s) {i : Slot} (ends : GraceEnds (s.window i)) :
    (s.window i).offer = none := by
  by_contra offered
  have state := (law i).1.2 (Option.isSome_iff_ne_none.2 offered)
  rw [ends.1] at state
  cases state

theorem tickRaises_iff (law : OfferLaw s) (m : Master) (y : Notice) :
    tickRaises s m y ↔ ∃ i, (s.window i).TickRaises s.timer ((s.master m).state = .offline) i m y := by
  refine exists_congr fun i => ?_
  dsimp only
  have calm := no_offer_of_graceEnds law (i := i)
  unfold Window.TickRaises Window.RunsOut Window.Retires Window.Withdrawn Window.OfferExpires OfferEnds
  cases offer : (s.window i).offer with
  | none =>
    simp only [RetireCause.revokes, RetireCause.freeNotice, Option.mem_def, reduceCtorEq,
      false_and, and_false, exists_false,
      or_false, false_or, ne_eq, not_false_eq_true, true_and]
    constructor
    · rintro (warns | ⟨ends, lapses⟩ | ⟨⟨ends, zero⟩ | grace, free, holder, on, retires⟩)
      · exact .inr (.inl warns)
      · exact .inl ⟨ends, .inl lapses⟩
      · exact .inl ⟨ends, .inr ⟨zero, holder, free, on, retires⟩⟩
      · exact .inr (.inr ⟨grace, holder, free, on, retires⟩)
    · rintro (⟨ends, lapses | ⟨zero, holder, free, on, retires⟩⟩ | warns | ⟨grace, holder, free, on, retires⟩)
      · exact .inr (.inl ⟨ends, lapses⟩)
      · exact .inr (.inr ⟨.inl ⟨ends, zero⟩, free, holder, on, retires⟩)
      · exact .inl warns
      · exact .inr (.inr ⟨.inr grace, free, holder, on, retires⟩)
  | some o =>
    have running : ¬ GraceEnds (s.window i) := fun ends => by simpa [offer] using calm ends
    simp only [running, Option.mem_def, Option.some.injEq, exists_eq_left', false_and, or_false, false_or]
    constructor
    · rintro (warns | ⟨ends, lapses⟩ | ⟨⟨ends, zero⟩, free, holder, on, retires⟩ | ⟨ends | expires, withdrawn⟩ |
        ⟨expires, told⟩)
      · exact .inr (.inl warns)
      · exact .inl ⟨ends, .inl lapses⟩
      · exact .inl ⟨ends, .inr (.inr ⟨zero, holder, free, on, retires⟩)⟩
      · exact .inl ⟨ends, .inr (.inl withdrawn)⟩
      · exact .inr (.inr ⟨expires, .inl withdrawn⟩)
      · exact .inr (.inr ⟨expires, .inr told⟩)
    · rintro (⟨ends, lapses | withdrawn | ⟨zero, holder, free, on, retires⟩⟩ | warns | ⟨expires, withdrawn | told⟩)
      · exact .inr (.inl ⟨ends, lapses⟩)
      · exact .inr (.inr (.inr (.inl ⟨.inl ends, withdrawn⟩)))
      · exact .inr (.inr (.inl ⟨⟨ends, zero⟩, free, holder, on, retires⟩))
      · exact .inl warns
      · exact .inr (.inr (.inr (.inl ⟨.inr expires, withdrawn⟩)))
      · exact .inr (.inr (.inr (.inr ⟨expires, told⟩)))

theorem tickRemoves_iff (law : OfferLaw s) (m : Master) (k : NoticeKind) (j : Slot) :
    tickRemoves s m k j ↔ ∃ i, (s.window i).TickRemoves i m k j := by
  have calm := no_offer_of_graceEnds law (i := j)
  have here : (∃ i, (s.window i).TickRemoves i m k j) ↔ (s.window j).TickRemoves j m k j :=
    ⟨fun ⟨i, h⟩ => h.key ▸ h, fun h => ⟨j, h⟩⟩
  rw [here]
  unfold tickRemoves Window.TickRemoves Window.Received Window.Unwarned Window.OfferExpires OfferEnds
  dsimp only
  cases offer : (s.window j).offer with
  | none =>
    simp only [Option.mem_def, reduceCtorEq, false_and, and_false, exists_false, or_false, false_or, true_and]
    exact and_left_comm
  | some o =>
    have running : ¬ GraceEnds (s.window j) := fun ends => by simpa [offer] using calm ends
    simp only [running, Option.mem_def, Option.some.injEq, exists_eq_left', false_and, false_or, true_and]
    constructor
    · rintro (⟨warning, ends, holder⟩ | ⟨received, ends | expires, recipient⟩)
      · exact .inl ⟨ends, .inr ⟨warning, holder⟩⟩
      · exact .inl ⟨ends, .inl ⟨received, recipient⟩⟩
      · exact .inr ⟨expires, received, recipient⟩
    · rintro (⟨ends, ⟨received, recipient⟩ | ⟨warning, holder⟩⟩ | ⟨expires, received, recipient⟩)
      · exact .inr ⟨received, .inl ends, recipient⟩
      · exact .inl ⟨warning, ends, holder⟩
      · exact .inr ⟨received, .inr expires, recipient⟩

/-- Settles O44: the windows by `tableTick_window`, the notice sets by the notices of each slot. -/
theorem tickCountsEveryWindowAlone : Obligations.TickCountsEveryWindowAlone := by
  intro s released
  obtain ⟨run, ticks, windows, masters, timer, rest⟩ : ∃ run : State, exec .leaseTick s = .next (tableTick run) ∧
      run.window = s.window ∧ run.master = s.master ∧ run.timer = { s.timer with cycles := 0 } ∧
      run.port = s.port ∧ run.mailbox = s.mailbox ∧ run.target = s.target ∧ run.engine = s.engine ∧
      run.resolverPointer = s.resolverPointer ∧ run.drst = s.drst ∧ run.pending = s.pending :=
    ⟨{ s with timer := { s.timer with cycles := 0 } }, by simp [exec, execLeaseTick, released],
      rfl, rfl, rfl, rfl, rfl, rfl,
      rfl, rfl, rfl, rfl⟩
  obtain ⟨port, mailbox, target, engine, pointer, drst, pending⟩ := rest
  have only := TablesOnly.tableTick run
  have change := tableTick_notifies run
  simp only [masters, windows] at change
  have sameLease (w : Window) (offline : Prop) (i : Slot) (m : Master) (y : Notice) :
      w.TickRaises run.timer offline i m y ↔ w.TickRaises s.timer offline i m y := by
    rw [timer]
    rfl
  simp only [sameLease] at change
  refine ⟨tableTick run, ticks, fun i => ?_, only.timer.trans timer, fun i due leased left near calm => ?_,
    fun unique law m => ?_, fun m => ?_, fun m => ?_, fun m => ?_, fun t => ?_, only.engine.trans engine,
    only.resolverPointer.trans pointer, only.drst.trans drst, only.pending.trans pending⟩
  · rw [tableTick_window, windows, timer]
    rfl
  · exact (change _).gains _ ⟨i, .inr (.inl ⟨⟨due, leased, left, near, calm⟩, rfl, rfl⟩)⟩
  · have set := ((change m).congr (tickRaises_iff law m) (tickRemoves_iff law m)).set (by rw [masters]; exact unique m)
    rw [masters] at set
    exact set.2
  · rw [only.master, masters]
  · rw [only.port, port]
  · rw [only.mailbox, mailbox]
  · rw [only.target, target]

end Sys2Proof.Machine
end

section
/-! Several accesses that end at a target one after the other (R14, R19, R20, R43, R59, R60, R134): what their answers make
of each port, window and master record. -/

namespace Sys2Proof.Machine

open Sys2Proof.Safety

variable {s t u : State}

/-! ### One port -/

/-- An access that ends, with the fault it ends with. -/
abbrev Ending := FaultKind × Resolved

/-- The answer of an access that ends with a fault (R57 to R59). -/
def Ending.answer (e : Ending) : Response := { tag := e.2.tag, code := .fault e.1, data := .zero }

/-- The report of an access that ends with a fault. -/
def Ending.report (e : Ending) : FaultReport := reportOf e.2 e.1

/-- Those of the accesses of a port that carry no drop mark (R43). -/
def MasterPort.kept (p : MasterPort) (L : List Ending) : List Ending := L.filter fun e => !p.dropped e.2.tag

/-- A port once accesses of it have ended in order: it lists the answers of those kept, the tags of the others are free, and
its reopen wait is over when one of the others left nothing outstanding (R43, R44). -/
structure MasterPort.Answered (p : MasterPort) (L : List Ending) (q : MasterPort) : Prop where
  unresolved : q.unresolved = p.unresolved
  aperture : q.aperture = p.aperture
  returned : q.returned = p.returned
  lineAsserted : q.lineAsserted = p.lineAsserted
  responses : q.responses = p.responses ++ (p.kept L).map Ending.answer
  tags : ∀ k : Tag, q.tags[k] = if p.dropped k = true ∧ ∃ e ∈ L, e.2.tag = k then .free else p.tags[k]
  reopenWait : q.reopenWait = true ↔ p.reopenWait = true ∧ (p.kept L = L ∨ q.outstanding ≠ 0)

/-- A port once a response has fallen due (R39, R43). -/
def MasterPort.answered (p : MasterPort) (r : Response) : MasterPort :=
  if p.dropped r.tag then
    { p.setTag r.tag .free with reopenWait := p.reopenWait && (p.setTag r.tag .free).outstanding != 0 }
  else { p with responses := p.responses ++ [r] }

theorem MasterPort.kept_append (p : MasterPort) (L L' : List Ending) : p.kept (L ++ L') = p.kept L ++ p.kept L' :=
  List.filter_append ..

theorem MasterPort.kept_eq_self_iff {p : MasterPort} {L : List Ending} :
    p.kept L = L ↔ ∀ e ∈ L, p.dropped e.2.tag = false := by
  simp [MasterPort.kept, List.filter_eq_self]

theorem outstanding_of_setTag {p : MasterPort} {t : Tag} (h : (p.setTag t .free).outstanding ≠ 0) :
    p.outstanding ≠ 0 := by
  have count := outstanding_setTag p t .free
  rw [if_pos rfl] at count
  omega

namespace MasterPort.Answered

variable {p q : MasterPort} {L : List Ending}

theorem nil (p : MasterPort) : p.Answered [] p :=
  ⟨rfl, rfl, rfl, rfl, by simp [MasterPort.kept], by simp, by simp [MasterPort.kept]⟩

/-- One more access of the port ends, its tag not among those of the accesses before. -/
theorem snoc (h : p.Answered L q) (e : Ending) (fresh : ∀ x ∈ L, x.2.tag ≠ e.2.tag) :
    p.Answered (L ++ [e]) (q.answered e.answer) := by
  have same : q.dropped e.2.tag = p.dropped e.2.tag := by
    rw [MasterPort.dropped, h.tags, if_neg fun ⟨_, x, hx, tag⟩ => fresh x hx tag, MasterPort.dropped]
  have reached (k : Tag) : (∃ x ∈ L ++ [e], x.2.tag = k) ↔ (∃ x ∈ L, x.2.tag = k) ∨ e.2.tag = k := by
    simp only [List.mem_append, List.mem_singleton, or_and_right, exists_or, exists_eq_left]
  unfold MasterPort.answered
  rw [show e.answer.tag = e.2.tag from rfl, same]
  cases dropped : p.dropped e.2.tag with
  | true =>
    have kept : p.kept (L ++ [e]) = p.kept L := by rw [kept_append]; simp [MasterPort.kept, dropped]
    refine ⟨h.unresolved, h.aperture, h.returned, h.lineAsserted, by rw [kept]; exact h.responses, fun k => ?tags, ?wait⟩
    case tags =>
      have freed : (q.setTag e.2.tag .free).tags[k] = if k = e.2.tag then .free else q.tags[k] := q.tag_setTag ..
      refine freed.trans ?_
      rw [h.tags]
      by_cases here : k = e.2.tag
      · simp [here, dropped]
      · rw [if_neg here]
        exact if_congr (and_congr_right fun _ => by rw [reached, or_iff_left (Ne.symm here)]) rfl rfl
    case wait =>
      have marked : ¬ p.kept (L ++ [e]) = L ++ [e] := fun all => by
        simpa [dropped] using kept_eq_self_iff.1 all e (by simp)
      have ends : (q.reopenWait && (q.setTag e.2.tag .free).outstanding != 0) = true ↔
          q.reopenWait = true ∧ (q.setTag e.2.tag .free).outstanding ≠ 0 := by simp
      refine ends.trans ?_
      rw [h.reopenWait]
      exact ⟨fun ⟨⟨wait, _⟩, left⟩ => ⟨wait, .inr left⟩, fun ⟨wait, all⟩ => by
        have left := all.resolve_left marked
        exact ⟨⟨wait, .inr (outstanding_of_setTag left)⟩, left⟩⟩
  | false =>
    have kept : p.kept (L ++ [e]) = p.kept L ++ [e] := by rw [kept_append]; simp [MasterPort.kept, dropped]
    refine ⟨h.unresolved, h.aperture, h.returned, h.lineAsserted, ?responses, fun k => ?tags, ?wait⟩
    case responses =>
      rw [kept, List.map_append, ← List.append_assoc, ← h.responses]
      rfl
    case tags =>
      refine (h.tags k).trans (if_congr ?_ rfl rfl)
      refine and_congr_right fun marked => ?_
      rw [reached, or_iff_left]
      rintro rfl
      simp [dropped] at marked
    case wait =>
      rw [kept, List.append_left_inj]
      exact h.reopenWait

end MasterPort.Answered

/-! ### One window -/

/-- A window once `n` accesses through it have ended (R14, R19, R20). -/
def Window.counts (w : Window) (n : Nat) : Window :=
  if w.state = .draining ∧ n = w.inFlight then freeWindow (w.gen + 1) else { w with inFlight := w.inFlight - n }

theorem Window.counts_zero {w : Window} (busy : w.state = .draining → w.inFlight ≠ 0) : w.counts 0 = w := by
  rw [Window.counts, if_neg fun h => busy h.1 h.2.symm]
  rfl

/-- While accesses remain a window is what it was but for the count. -/
theorem Window.counts_of_lt {w : Window} {n : Nat} (h : n < w.inFlight) :
    w.counts n = { w with inFlight := w.inFlight - n } := if_neg fun ends => h.ne ends.2

/-- One more access through a slot ends. -/
theorem countOut_counts {w : Window} {i : Slot} {n : Nat} (h : s.window i = w.counts n) (left : n < w.inFlight)
    (j : Slot) : (countOut i s).window j = if j = i then w.counts (n + 1) else s.window j := by
  rw [countOut_window_eq, h, Window.counts_of_lt left]
  refine if_congr Iff.rfl ?_ rfl
  have last : w.inFlight - n ≤ 1 ↔ n + 1 = w.inFlight := by omega
  simp only [Window.counts, last]
  rfl

/-! ### All accesses -/

/-- The accesses of a master among those that end. -/
def endedOf (m : Master) (E : List Ending) : List Ending := E.filter fun e => e.2.master == m

/-- The number of accesses through a slot among those that end. -/
def endedThrough (E : List Ending) (i : Slot) : Nat := E.countP fun e => e.2.slot == i

/-- The accesses that end can have been in flight together: no two have one master and tag (R25), and the counts include
them (R14). -/
structure Endable (s : State) (E : List Ending) : Prop where
  busy : ∀ i, (s.window i).state = .draining → (s.window i).inFlight ≠ 0
  counted : ∀ i, endedThrough E i ≤ (s.window i).inFlight
  owners : (E.map fun e => e.2.owner).Nodup
  calm : ∀ e ∈ E, e.1.holds = false

/-- The slot becomes FREE with the accesses that end (R19). -/
def Frees (s : State) (E : List Ending) (i : Slot) : Prop :=
  (s.window i).state = .draining ∧ endedThrough E i = (s.window i).inFlight

/-- The notices of the accesses that end: FAULT for a report, and WINDOW_RETIRED for a slot that becomes FREE (R17, R20,
R134). -/
def EndingRaises (s : State) (E : List Ending) (m : Master) (y : Notice) : Prop :=
  ((s.port m).kept (endedOf m E) ≠ [] ∧ y = faultNotice) ∨
  ∃ i, Frees s E i ∧ (s.window i).retireNotice ≠ .none ∧ m = (s.window i).holder ∧ (s.master m).state ≠ .offline ∧
    y = retiredNotice i (s.window i).gen (s.window i).retireNotice

/-- The state once accesses have ended in order. -/
structure Ended (s : State) (E : List Ending) (u : State) : Prop where
  port : ∀ m, (s.port m).Answered (endedOf m E) (u.port m)
  window : ∀ i, u.window i = (s.window i).counts (endedThrough E i)
  master : ∀ m, u.master m =
    { s.master m with
      faultRecord := recordAfter (s.master m).faultRecord (((s.port m).kept (endedOf m E)).map Ending.report)
      notices := (u.master m).notices }
  notices : Notifies s u (EndingRaises s E) fun _ _ _ => False
  mailbox : ∀ m, u.mailbox m = s.mailbox m
  engine : u.engine = s.engine
  timer : u.timer = s.timer
  resolverPointer : u.resolverPointer = s.resolverPointer
  drst : u.drst = s.drst
  pending : u.pending = s.pending

theorem Ended.nil (busy : ∀ i, (s.window i).state = .draining → (s.window i).inFlight ≠ 0) : Ended s [] s := by
  refine ⟨fun m => .nil _, fun i => (Window.counts_zero (busy i)).symm, fun m => rfl, ?_,
    fun _ => rfl, rfl, rfl, rfl, rfl,
    rfl⟩
  refine (Notifies.of_master fun _ => rfl).congr (fun m y => ⟨?_, False.elim⟩) fun _ _ _ => Iff.rfl
  rintro (⟨some, -⟩ | ⟨i, ⟨draining, none⟩, -⟩)
  · exact some rfl
  · exact busy i draining none.symm

theorem endedOf_snoc (m : Master) (E : List Ending) (e : Ending) :
    endedOf m (E ++ [e]) = endedOf m E ++ if e.2.master = m then [e] else [] := by
  rw [endedOf, List.filter_append, List.filter_singleton]
  simp [endedOf]

theorem endedThrough_snoc (E : List Ending) (e : Ending) (i : Slot) :
    endedThrough (E ++ [e]) i = endedThrough E i + if e.2.slot = i then 1 else 0 := by
  rw [endedThrough, List.countP_append, List.countP_singleton]
  simp [endedThrough]

theorem endFaulted_port (k : FaultKind) (a : Resolved) (s : State) (m : Master) :
    (endFaulted k a s).port m = if a.master = m then (s.port m).answered (Ending.answer (k, a)) else s.port m := by
  rw [endFaulted]
  split
  case isTrue e =>
    subst e
    rw [answer_port_self, countOut_port]
    rfl
  case isFalse other => rw [answer_port_of_ne _ _ _ _ (Ne.symm other), countOut_port]

theorem TablesOnly.countOut (i : Slot) (s : State) : TablesOnly s (countOut i s) := by
  unfold Machine.countOut
  dsimp only
  split
  · exact .freeSlot ..
  · exact .setWindow ..

/-- The record of a master once an access has ended with a fault that does not hold. -/
theorem endFaulted_master {k : FaultKind} (calm : k.holds = false) (a : Resolved) (s : State) (m : Master) :
    (endFaulted k a s).master m =
      { s.master m with
        faultRecord :=
          if a.master = m ∧ (s.port m).dropped a.tag = false then
            some (enterRecord (s.master m).faultRecord (reportOf a k))
          else (s.master m).faultRecord
        notices := ((endFaulted k a s).master m).notices } := by
  rw [endFaulted, answer_master]
  dsimp only
  have only := (TablesOnly.countOut a.slot s).master m
  rw [countOut_port, enterReport_master]
  by_cases own : a.master = m
  · subst own
    cases dropped : (s.port a.master).dropped a.tag with
    | true =>
      simp only [if_true]
      exact only.trans (by simp)
    | false =>
      have calm : (reportOf a k).kind.holds = false := calm
      simp [calm]
  · simp only [Ne.symm own, own, if_false, ite_self, false_and]
    exact only

theorem endFaulted_notices (k : FaultKind) (a : Resolved) (s : State) (m : Master) :
    ((endFaulted k a s).master m).notices =
      if a.master = m ∧ (s.port m).dropped a.tag = false then
        insertNotice faultNotice ((countOut a.slot s).master m).notices
      else ((countOut a.slot s).master m).notices := by
  rw [endFaulted, answer_notices, countOut_port]
  refine if_congr ?_ rfl rfl
  rw [eq_comm (a := m), ← Bool.not_eq_true, dropped_iff]
  exact and_congr_right fun own => by simp [own]

/-- A notice is raised after a change that raised no other one of its kind and key. -/
theorem NoticeChange.then_insert_same {l l' : List Notice} {R : Notice → Prop} {D : NoticeKind → Slot → Prop}
    (h : NoticeChange l l' R D) (c : Prop) [Decidable c] (n : Notice)
    (same : c → ∀ y, R y → n.kind = y.kind → n.key = y.key → n = y) :
    NoticeChange l (if c then insertNotice n l' else l') (fun y => R y ∨ (c ∧ y = n)) D := by
  split
  case isTrue yes =>
    refine (h.trans (.insert n l') (fun y x hy hx kind key => ?_) fun _ _ no => no).congr (by simp [yes]) (by simp)
    subst hx
    exact same yes y hy kind key
  case isFalse no => exact h.congr (by simp [no]) fun _ _ => Iff.rfl

namespace Ended

variable {E : List Ending} {e : Ending}

/-- Of an access that has not ended before, the drop mark is as it was. -/
theorem dropped (h : Ended s E t) (fresh : ∀ x ∈ E, x.2.owner ≠ e.2.owner) :
    (t.port e.2.master).dropped e.2.tag = (s.port e.2.master).dropped e.2.tag := by
  rw [MasterPort.dropped, (h.port _).tags, if_neg, MasterPort.dropped]
  rintro ⟨-, x, hx, tag⟩
  obtain ⟨hx, master⟩ := by simpa [endedOf] using hx
  exact fresh x hx (Prod.ext master tag)

theorem kept_snoc (s : State) (m : Master) (E : List Ending) (e : Ending) :
    (s.port m).kept (endedOf m (E ++ [e])) =
      (s.port m).kept (endedOf m E) ++ if e.2.master = m ∧ (s.port m).dropped e.2.tag = false then [e] else [] := by
  rw [endedOf_snoc, MasterPort.kept_append]
  congr 1
  split
  case isTrue own => cases dropped : (s.port m).dropped e.2.tag <;> simp [MasterPort.kept, own, dropped]
  case isFalse other => simp [MasterPort.kept, other]

section
variable (h : Ended s E t) (ends : Endable s (E ++ [e]))
include ends

theorem fresh : ∀ x ∈ E, x.2.owner ≠ e.2.owner := fun x hx same => by
  have owners := ends.owners
  rw [List.map_append, List.nodup_append] at owners
  exact owners.2.2 _ (List.mem_map_of_mem hx) _ (by simp) same

theorem lt_inFlight (i : Slot) (here : e.2.slot = i) : endedThrough E i < (s.window i).inFlight := by
  have counted := ends.counted i
  rw [endedThrough_snoc, if_pos here] at counted
  exact counted

/-- The slots that become FREE with one access more. -/
theorem frees_snoc (i : Slot) :
    Frees s (E ++ [e]) i ↔
      Frees s E i ∨ (i = e.2.slot ∧ (s.window i).state = .draining ∧ endedThrough E i + 1 = (s.window i).inFlight) := by
  unfold Frees
  rw [endedThrough_snoc]
  split
  case isTrue here =>
    have room := lt_inFlight ends i here
    simp only [here, true_and]
    exact ⟨.inr, fun frees => frees.resolve_left fun gone => room.ne gone.2⟩
  case isFalse other => simp [Ne.symm other]

include h

theorem snoc_window (i : Slot) :
    (endFaulted e.1 e.2 t).window i = (s.window i).counts (endedThrough (E ++ [e]) i) := by
  rw [endFaulted_window, countOut_counts (h.window e.2.slot) (lt_inFlight ends _ rfl), endedThrough_snoc]
  split
  case isTrue here => rw [here, if_pos rfl]
  case isFalse other => rw [h.window, if_neg (Ne.symm other), Nat.add_zero]

theorem snoc_master (m : Master) : (endFaulted e.1 e.2 t).master m =
    { s.master m with
      faultRecord := recordAfter (s.master m).faultRecord (((s.port m).kept (endedOf m (E ++ [e]))).map Ending.report)
      notices := ((endFaulted e.1 e.2 t).master m).notices } := by
  rw [endFaulted_master (ends.calm e (by simp)), kept_snoc]
  have same : (e.2.master = m ∧ (t.port m).dropped e.2.tag = false) ↔
      (e.2.master = m ∧ (s.port m).dropped e.2.tag = false) :=
    and_congr_right fun own => by rw [← own, h.dropped (fresh ends)]
  simp only [same]
  rw [h.master m]
  split
  case isTrue => simp only [List.map_append, recordAfter, List.foldl_append]; rfl
  case isFalse => simp

theorem snoc_notices : Notifies s (endFaulted e.1 e.2 t) (EndingRaises s (E ++ [e])) fun _ _ _ => False := fun m => by
  have room := lt_inFlight ends _ rfl
  have window := h.window e.2.slot
  rw [Window.counts_of_lt room] at window
  have state : (t.master m).state = (s.master m).state := by rw [h.master m]
  have last : (s.window e.2.slot).inFlight - endedThrough E e.2.slot ≤ 1 ↔
      endedThrough E e.2.slot + 1 = (s.window e.2.slot).inFlight := by omega
  have same : (e.2.master = m ∧ (t.port m).dropped e.2.tag = false) ↔
      (e.2.master = m ∧ (s.port m).dropped e.2.tag = false) :=
    and_congr_right fun own => by rw [← own, h.dropped (fresh ends)]
  rw [endFaulted_notices, countOut_notices, window, state]
  simp only [same, last]
  refine (((h.notices m).then_insert_same _ _ ?retired).then_insert_same _ _ ?fault).congr
    (fun y => ?_) fun _ _ => Iff.rfl
  case retired =>
    rintro - y (⟨-, rfl⟩ | ⟨i, gone, -, -, -, rfl⟩) kind key
    · cases kind
    · obtain rfl : e.2.slot = i := key
      exact absurd gone.2 room.ne
  case fault =>
    rintro - y ((⟨-, rfl⟩ | ⟨i, -, -, -, -, rfl⟩) | ⟨-, rfl⟩) kind -
    · rfl
    · cases kind
    · cases kind
  have some (c : Prop) [Decidable c] (L : List Ending) : (L ++ if c then [e] else []) ≠ [] ↔ L ≠ [] ∨ c := by
    by_cases c <;> simp [*]
  unfold EndingRaises
  rw [kept_snoc, some]
  simp only [frees_snoc ends, or_and_right, exists_or, and_assoc, exists_eq_left]
  constructor
  · rintro ((kept | now) | (gone | goes))
    · exact .inl (.inl (.inl kept))
    · exact .inr now
    · exact .inl (.inl (.inr gone))
    · exact .inl (.inr goes)
  · rintro (((kept | gone) | goes) | now)
    · exact .inl (.inl kept)
    · exact .inr (.inl gone)
    · exact .inr (.inr goes)
    · exact .inl (.inr now)

/-- One access more ends. -/
theorem snoc : Ended s (E ++ [e]) (endFaulted e.1 e.2 t) where
  port m := by
    rw [endFaulted_port, endedOf_snoc]
    split
    case isTrue own =>
      refine (h.port m).snoc e fun x hx tag => ?_
      obtain ⟨hx, master⟩ := by simpa [endedOf] using hx
      exact fresh ends x hx (Prod.ext (master.trans own.symm) tag)
    case isFalse => simpa using h.port m
  window := h.snoc_window ends
  master := h.snoc_master ends
  notices := h.snoc_notices ends
  mailbox m := (endFaulted_mailbox ..).trans (h.mailbox m)
  engine := (endFaulted_engine ..).trans h.engine
  timer := (endFaulted_timer ..).trans h.timer
  resolverPointer := (endFaulted_resolverPointer ..).trans h.resolverPointer
  drst := (endFaulted_drst ..).trans h.drst
  pending := (endFaulted_pending ..).trans h.pending

end

end Ended

end Sys2Proof.Machine
end

section
/-! A target that leaves service (R38, R43, R58 to R60): its queued and waiting accesses end TARGET_DOWN, after the access in
progress where the response limit has run out. -/

namespace Sys2Proof.Machine

open Sys2Proof.Safety

variable {s t u : State} {E : List Ending}

/-! ### Changes of lists and targets alone -/

/-- The change reaches target ports and waiting lists alone. -/
structure ListsOnly (s u : State) : Prop where
  port : ∀ m, u.port m = { s.port m with waiting := (u.port m).waiting }
  window : ∀ i, u.window i = s.window i
  master : ∀ m, u.master m = s.master m
  mailbox : ∀ m, u.mailbox m = s.mailbox m
  engine : u.engine = s.engine
  timer : u.timer = s.timer
  resolverPointer : u.resolverPointer = s.resolverPointer
  drst : u.drst = s.drst
  pending : u.pending = s.pending

namespace ListsOnly

theorem setTarget (g : Target) (p : TargetPort) (s : State) : ListsOnly s (s.setTarget g p) :=
  ⟨fun _ => rfl, fun _ => rfl, fun _ => rfl, fun _ => rfl, rfl, rfl, rfl, rfl, rfl⟩

theorem setWaiting (m : Master) (g : Target) (l : List Resolved) (s : State) :
    ListsOnly s (s.setPort m ((s.port m).setWaiting g l)) := by
  refine ⟨fun n => ?_, fun _ => rfl, fun _ => rfl, fun _ => rfl, rfl, rfl, rfl, rfl, rfl⟩
  rw [State.port_setPort]
  split
  case isTrue e => rw [e]; rfl
  case isFalse => rfl

theorem trans (h : ListsOnly s t) (h' : ListsOnly t u) : ListsOnly s u :=
  ⟨fun m => by rw [h'.port m, h.port m], fun i => (h'.window i).trans (h.window i),
    fun m => (h'.master m).trans (h.master m), fun m => (h'.mailbox m).trans (h.mailbox m), h'.engine.trans h.engine,
    h'.timer.trans h.timer, h'.resolverPointer.trans h.resolverPointer, h'.drst.trans h.drst, h'.pending.trans h.pending⟩

theorem unlisted (g : Target) (s : State) : ListsOnly s (s.unlisted g) :=
  List.foldlRecOn (motive := ListsOnly s) allMasters _ (setTarget ..) fun _ h _ _ => h.trans (setWaiting ..)

end ListsOnly

theorem MasterPort.Answered.of_waiting {p q r : MasterPort} {L : List Ending} (h : p.Answered L q)
    (same : r = { q with waiting := r.waiting }) : p.Answered L r := by
  rw [same]
  exact ⟨h.unresolved, h.aperture, h.returned, h.lineAsserted, h.responses, h.tags, h.reopenWait⟩

theorem Ended.lists (h : Ended s E t) (only : ListsOnly t u) : Ended s E u where
  port m := (h.port m).of_waiting (only.port m)
  window i := (only.window i).trans (h.window i)
  master m := by rw [only.master m]; exact h.master m
  notices := h.notices.before_none only.master
  mailbox m := (only.mailbox m).trans (h.mailbox m)
  engine := only.engine.trans h.engine
  timer := only.timer.trans h.timer
  resolverPointer := only.resolverPointer.trans h.resolverPointer
  drst := only.drst.trans h.drst
  pending := only.pending.trans h.pending

theorem Endable.of_append {E' : List Ending} (h : Endable s (E ++ E')) : Endable s E where
  busy := h.busy
  counted i := by
    have all := h.counted i
    rw [endedThrough, List.countP_append] at all
    exact (Nat.le_add_right ..).trans all
  owners := by
    have owners := h.owners
    rw [List.map_append] at owners
    exact owners.of_append_left
  calm e he := h.calm e (List.mem_append_left _ he)

/-- Accesses that are among those resolved can end together. -/
theorem endable_of_resolved (tags : TagsAccounted s) (counts : CountedAccesses s) {R : Multiset Resolved}
    (resolved : s.resolved = (E.map Prod.snd : List Resolved) + R) (calm : ∀ e ∈ E, e.1.holds = false) :
    Endable s E where
  busy i draining := Nat.one_le_iff_ne_zero.1 ((counts i).2.2 draining)
  counted i := by
    rw [(countedAccesses_iff.1 counts i).inFlight, resolved, through_add, through_coe, List.countP_map]
    exact Nat.le_add_right ..
  owners := by
    have held := (tagsAccounted_iff.1 tags).count
    have single : (s.resolved.map Resolved.owner).Nodup := Multiset.nodup_iff_count_le_one.2 fun ⟨m, t⟩ => by
      have count := held m t
      split at count <;> omega
    rw [resolved, Multiset.map_add, Multiset.map_coe, List.map_map] at single
    exact Multiset.coe_nodup.1 (Multiset.nodup_add.1 single).1
  calm := calm

/-- Accesses that end one after the other with one fault. -/
theorem Ended.foldl {k : FaultKind} (h : Ended s E t) (l : List Resolved) (ends : Endable s (E ++ l.map (Prod.mk k))) :
    Ended s (E ++ l.map (Prod.mk k)) (l.foldl (fun s a => endFaulted k a s) t) := by
  induction l generalizing E t with
  | nil => simpa using h
  | cons a l ih =>
    rw [List.map_cons, List.append_cons] at ends ⊢
    exact ih (h.snoc (e := (k, a)) ends.of_append) ends

/-! ### The accesses of a target -/

theorem flatMap_ite_eq {α β : Type} [DecidableEq α] {l : List α} (distinct : l.Nodup) {m : α} (hm : m ∈ l) (x : List β) :
    (l.flatMap fun n => if n = m then x else []) = x := by
  induction l with
  | nil => cases hm
  | cons n l ih =>
    obtain ⟨fresh, distinct⟩ := List.nodup_cons.1 distinct
    rw [List.flatMap_cons]
    by_cases e : n = m
    · subst e
      rw [if_pos rfl, List.append_right_eq_self, List.flatMap_eq_nil_iff]
      exact fun k hk => if_neg fun (e : k = n) => fresh (e ▸ hk)
    · rw [if_neg e, List.nil_append, ih distinct ((List.mem_cons.1 hm).resolve_left (Ne.symm e))]

/-- The accesses in the lists of a target, in the order in which they are answered. -/
def State.listedAt (s : State) (t : Target) : List Resolved := (s.target t).queue ++ s.waitingAt t

theorem listedAt_filter {g : Target} (owner : ∀ m, ∀ a ∈ (s.port m).waitingFor g, a.master = m) (m : Master) :
    (s.listedAt g).filter (fun a => a.master == m) = downEnded s g m := by
  rw [State.listedAt, List.filter_append, downEnded, State.waitingAt, List.filter_flatMap]
  congr 1
  refine Eq.trans (congrArg (List.flatMap · allMasters) (funext fun n => ?_))
    (flatMap_ite_eq (List.nodup_finRange 6) (List.mem_finRange m) _)
  split
  case isTrue e =>
    subst e
    exact List.filter_eq_self.2 fun a ha => by simp [owner n a ha]
  case isFalse e => exact List.filter_eq_nil_iff.2 fun a ha => by simp [owner n a ha, e]

theorem countP_listedAt (s : State) (g : Target) (i : Slot) :
    (s.listedAt g).countP (fun a => a.slot == i) = downCount s g i := by
  rw [State.listedAt, List.countP_append, downCount, State.waitingAt, List.countP_flatMap]
  rfl

/-- The endings of a target that leaves service. -/
def State.downEndings (s : State) (t : Target) : List Ending := (s.listedAt t).map (Prod.mk .targetDown)

theorem endedOf_map (k : FaultKind) (l : List Resolved) (m : Master) :
    endedOf m (l.map (Prod.mk k)) = (l.filter fun a => a.master == m).map (Prod.mk k) := List.filter_map ..

theorem kept_map (p : MasterPort) (k : FaultKind) (l : List Resolved) :
    p.kept (l.map (Prod.mk k)) = (l.filter fun a => !p.dropped a.tag).map (Prod.mk k) := List.filter_map ..

theorem endedOf_downEndings {g : Target} (owner : ∀ m, ∀ a ∈ (s.port m).waitingFor g, a.master = m) (m : Master) :
    endedOf m (s.downEndings g) = (downEnded s g m).map (Prod.mk .targetDown) := by
  rw [State.downEndings, endedOf_map, listedAt_filter owner]

theorem endedThrough_downEndings (s : State) (g : Target) (i : Slot) :
    endedThrough (s.downEndings g) i = downCount s g i := by
  rw [endedThrough, State.downEndings, List.countP_map]
  exact countP_listedAt s g i

theorem kept_downEndings {g : Target} (owner : ∀ m, ∀ a ∈ (s.port m).waitingFor g, a.master = m) (m : Master) :
    (s.port m).kept (endedOf m (s.downEndings g)) = (downKept s g m).map (Prod.mk .targetDown) := by
  rw [endedOf_downEndings owner, kept_map, downKept]

theorem exists_map_mk {α β : Type} (k : α) (l : List β) (P : α × β → Prop) :
    (∃ e ∈ l.map (Prod.mk k), P e) ↔ ∃ a ∈ l, P (k, a) := by simp

/-- The accesses listed at a target end as it leaves service, after those that have ended before. -/
theorem Ended.answerDown (h : Ended s E t) {g : Target} (same : t.listedAt g = s.listedAt g)
    (ends : Endable s (E ++ s.downEndings g)) : Ended s (E ++ s.downEndings g) (answerDown g t) := by
  rw [answerDown_eq]
  have listed : (t.target g).queue ++ t.waitingAt g = s.listedAt g := same
  rw [listed]
  exact (h.lists (.unlisted g t)).foldl _ ends

theorem owner_of_tags (tags : TagsAccounted s) {g : Target} (m : Master) : ∀ a ∈ (s.port m).waitingFor g, a.master = m :=
  tags.2 m g

theorem calm_downEndings (s : State) (g : Target) : ∀ e ∈ s.downEndings g, e.1.holds = false := by
  rintro e he
  obtain ⟨a, -, rfl⟩ := List.mem_map.1 he
  rfl

theorem endable_down (tags : TagsAccounted s) (counts : CountedAccesses s) (g : Target) :
    Endable s (s.downEndings g) := by
  refine endable_of_resolved tags counts (R := (s.unlisted g).resolved) ?_ (calm_downEndings s g)
  have listed : (s.downEndings g).map Prod.snd = s.listedAt g := by simp [State.downEndings]
  rw [listed]
  exact unlisted_resolved s g

/-- Settles O14: the accesses of the lists end one after the other. -/
theorem targetLeavingServiceAnswersItsAccesses : Obligations.TargetLeavingServiceAnswersItsAccesses := by
  intro s g tags counts u freed
  have owner (m : Master) : ∀ a ∈ (s.port m).waitingFor g, a.master = m := tags.2 m g
  have ends := endable_down tags counts g
  have ended : Ended s (s.downEndings g) u := (Ended.nil ends.busy).answerDown (E := []) rfl ends
  have kept := kept_downEndings owner
  have frees (i : Slot) : Frees s (s.downEndings g) i ↔ freed i := by
    rw [Frees, endedThrough_downEndings]
  have raises (m : Master) (y : Notice) :
      (downKept s g m ≠ [] ∧ y = faultNotice ∨
        ∃ i, freed i ∧ (s.window i).retireNotice ≠ .none ∧ m = (s.window i).holder ∧ (s.master m).state ≠ .offline ∧
          y = { kind := .windowRetired, key := i, gen := (s.window i).gen, cause := (s.window i).retireNotice }) ↔
        EndingRaises s (s.downEndings g) m y := by
    simp only [EndingRaises, kept, frees, ne_eq, List.map_eq_nil_iff]
    rfl
  refine ⟨?_, fun j other => ?_, fun m j => answerDown_waitingFor s g j m, fun m => ?_, fun m k => ?_, fun m => ?_,
    fun i => ?_, fun m => ⟨?_, fun some => ?_⟩, fun i gone cause on => ?_, fun unique m => ?_, ended.mailbox,
    ended.engine, ended.timer, ended.resolverPointer, ended.drst, ended.pending⟩
  · exact (answerDown_target s g g).trans (if_pos rfl)
  · exact (answerDown_target s g j).trans (if_neg other)
  · rw [(ended.port m).responses, kept, List.map_map]
    rfl
  · refine ((ended.port m).tags k).trans (if_congr (and_congr_right fun _ => ?_) rfl rfl)
    rw [endedOf_downEndings owner, exists_map_mk]
  · have port := ended.port m
    refine ⟨port.unresolved, port.aperture, port.returned, port.lineAsserted, port.reopenWait.trans ?_⟩
    rw [kept, endedOf_downEndings owner, List.map_inj_right (fun _ _ => (Prod.mk.inj · |>.2))]
  · rw [ended.window, Window.counts, endedThrough_downEndings]
  · rw [ended.master m, kept, List.map_map]
    rfl
  · exact (ended.notices m).gains _ ((raises m _).1 (.inl ⟨some, rfl⟩))
  · exact (ended.notices _).gains _ ((raises _ _).1 (.inr ⟨i, gone, cause, rfl, on, rfl⟩))
  · exact (((ended.notices m).congr (raises m) fun _ _ => Iff.rfl).set (unique m)).2

/-! ### The response limit (R58 to R60) -/

/-- The ending of the access in progress when the response limit has run out. -/
def Running.silence (r : Running) : Ending := (.targetSilent, r.access)

theorem endedOf_silence (r : Running) (g : Target) {m : Master}
    (owner : ∀ m, ∀ a ∈ (s.port m).waitingFor g, a.master = m) :
    endedOf m (r.silence :: s.downEndings g) =
      (if r.access.master = m then [r.silence] else []) ++ (downEnded s g m).map (Prod.mk .targetDown) := by
  rw [← endedOf_downEndings owner, endedOf, List.filter_cons, endedOf]
  by_cases own : r.access.master = m <;> simp [Running.silence, own]

theorem kept_silence (r : Running) (g : Target) {m : Master}
    (owner : ∀ m, ∀ a ∈ (s.port m).waitingFor g, a.master = m) :
    (s.port m).kept (endedOf m (r.silence :: s.downEndings g)) =
      (if r.access.master = m ∧ (s.port m).tags[r.access.tag] ≠ .inUse true then [r.silence] else []) ++
        (downKept s g m).map (Prod.mk .targetDown) := by
  rw [endedOf_silence r g owner, MasterPort.kept_append, kept_map, ← downKept]
  congr 1
  rw [if_congr (and_congr_right fun _ => not_dropped_iff.symm) rfl rfl]
  by_cases own : r.access.master = m
  · cases dropped : (s.port m).dropped r.access.tag <;> simp [own, dropped, MasterPort.kept, Running.silence]
  · simp [own, MasterPort.kept]

/-- The state once the access in progress at a target is over and the port in recovery. -/
def State.relieved (s : State) (g : Target) : State :=
  s.setTarget g { (s.target g).beginRecovery with running := none }

theorem relieved_listedAt (s : State) (g : Target) : (s.relieved g).listedAt g = s.listedAt g := by
  simp [State.listedAt, State.waitingAt, State.relieved, TargetPort.beginRecovery]

/-- The state once the response limit has ended the access in progress and the target is FAILED. -/
def State.silenced (s : State) (g : Target) (a : Resolved) : State :=
  (endFaulted .targetSilent a (s.relieved g)).setTarget g
    { (s.target g).beginRecovery with running := none, state := .failed }

theorem silenced_listedAt (s : State) (g : Target) (a : Resolved) : (s.silenced g a).listedAt g = s.listedAt g := by
  simp [State.listedAt, State.waitingAt, State.silenced, State.relieved, TargetPort.beginRecovery]

theorem endedThrough_silence (r : Running) (s : State) (g : Target) (i : Slot) :
    endedThrough (r.silence :: s.downEndings g) i = downCount s g i + if r.access.slot = i then 1 else 0 := by
  rw [← endedThrough_downEndings, endedThrough, List.countP_cons, endedThrough]
  simp [Running.silence]

theorem ite_append_ne_nil {α : Type} {c : Prop} [Decidable c] {a : α} {l : List α} :
    (if c then [a] else []) ++ l ≠ [] ↔ c ∨ l ≠ [] := by
  by_cases c <;> simp [*]

theorem kept_silence_eq_self (r : Running) (g : Target) {m : Master}
    (owner : ∀ m, ∀ a ∈ (s.port m).waitingFor g, a.master = m) :
    (s.port m).kept (endedOf m (r.silence :: s.downEndings g)) = endedOf m (r.silence :: s.downEndings g) ↔
      downKept s g m = downEnded s g m ∧
        (r.access.master = m → r.access.master = m ∧ (s.port m).tags[r.access.tag] ≠ .inUse true) := by
  rw [MasterPort.kept_eq_self_iff, endedOf_silence r g owner, downKept, List.filter_eq_self]
  rw [← not_dropped_iff]
  simp only [List.forall_mem_append, List.forall_mem_map, Bool.not_eq_true']
  rw [and_comm]
  refine and_congr_right fun _ => ?_
  by_cases own : r.access.master = m <;> simp [own, Running.silence]

section
variable {g : Target} {r : Running} (running : (s.target g).running = some r)
include running

theorem endable_silence (tags : TagsAccounted s) (counts : CountedAccesses s) :
    Endable s (r.silence :: s.downEndings g) := by
  refine endable_of_resolved tags counts (R := ((s.relieved g).unlisted g).resolved) ?_ fun e he => ?_
  · have listed : (r.silence :: s.downEndings g).map Prod.snd = r.access :: s.listedAt g := by
      simp [State.downEndings, Running.silence]
    have others : (s.relieved g).resolved = s.listedAt g + ((s.relieved g).unlisted g).resolved := by
      rw [← relieved_listedAt]
      exact unlisted_resolved _ g
    rw [listed, ended_resolved running, ← Multiset.cons_coe, Multiset.cons_add]
    exact congrArg _ others
  · obtain rfl | he := List.mem_cons.1 he
    · rfl
    · exact calm_downEndings s g e he

theorem responseTimerExpires_eq :
    responseTimerExpires g s = raiseNotice 0 (targetFailedNotice g) (answerDown g (s.silenced g r.access)) := by
  unfold responseTimerExpires
  simp only [running]
  rw [endFaulted_target, State.target_setTarget, if_pos rfl]
  rfl

/-- The accesses that end with the response limit, before the notice to M0. -/
theorem ended_silenced (tags : TagsAccounted s) (counts : CountedAccesses s) (only : ListsOnly s t)
    (listed : t.listedAt g = s.listedAt g) :
    Ended s (r.silence :: s.downEndings g) (answerDown g (t.silenced g r.access)) := by
  have ends := endable_silence running tags counts
  have relieved : ListsOnly s (t.relieved g) := only.trans (.setTarget ..)
  have first := ((Ended.nil ends.busy).lists relieved).snoc (ends.of_append (E := [r.silence]))
  exact (first.lists (.setTarget g _ _)).answerDown ((silenced_listedAt t g r.access).trans listed) ends

end

theorem exec_responseTimerExpiry {g : Target} (held : (s.target g).inHold = true) :
    exec (.responseTimerExpiry g) s =
      .next (responseTimerExpires g (setLines g { (s.target g).lines with ready := false } s)) := by
  rw [exec, execResponseTimerExpiry, if_pos held]

/-- Settles O15: the access in progress ends first, then those of the lists, and M0 is told. -/
theorem responseLimitFailsTheTarget : Obligations.ResponseLimitFailsTheTarget := by
  intro s g r tags counts beat held running silent ended freed
  have owner (m : Master) : ∀ a ∈ (s.port m).waitingFor g, a.master = m := tags.2 m g
  obtain ⟨low, hlow⟩ : ∃ low, low = setLines g { (s.target g).lines with ready := false } s := ⟨_, rfl⟩
  have target : low.target g = { s.target g with lines := { (s.target g).lines with ready := false } } := by
    rw [hlow, setLines_target_self]
  have only : ListsOnly s low := hlow ▸ .setTarget ..
  have listed : low.listedAt g = s.listedAt g := by simp [hlow, State.listedAt, State.waitingAt, setLines]
  have silenced := ended_silenced running tags counts only listed
  obtain ⟨u, hu⟩ : ∃ u, u = answerDown g (low.silenced g r.access) := ⟨_, rfl⟩
  rw [← hu] at silenced
  have told := TablesOnly.raiseNotice 0 (targetFailedNotice g) u
  have expires : responseTimerExpires g low = raiseNotice 0 (targetFailedNotice g) u := by
    rw [hu, responseTimerExpires_eq (by rw [target]; exact running)]
  have kept (m : Master) := kept_silence r g owner (m := m)
  have frees (i : Slot) : Frees s (r.silence :: s.downEndings g) i ↔ freed i := by
    rw [Frees, endedThrough_silence]
  have raised (m : Master) (y : Notice) :
      ((m = 0 ∧ y = { kind := .targetFailed, key := Fin.ofNat 32 g.val, gen := 0#4, cause := .none }) ∨
        ((silent m ∨ downKept s g m ≠ []) ∧ y = faultNotice) ∨
        ∃ i, freed i ∧ (s.window i).retireNotice ≠ .none ∧ m = (s.window i).holder ∧ (s.master m).state ≠ .offline ∧
          y = { kind := .windowRetired, key := i, gen := (s.window i).gen, cause := (s.window i).retireNotice }) ↔
        (EndingRaises s (r.silence :: s.downEndings g) m y ∨ (m = 0 ∧ y = targetFailedNotice g)) := by
    have some : (s.port m).kept (endedOf m (r.silence :: s.downEndings g)) ≠ [] ↔ silent m ∨ downKept s g m ≠ [] := by
      rw [kept, ite_append_ne_nil]
      exact or_congr_right (not_congr List.map_eq_nil_iff)
    rw [EndingRaises, some, or_comm (b := m = 0 ∧ _)]
    simp only [frees]
    rfl
  have notices : Notifies s (raiseNotice 0 (targetFailedNotice g) u) _ fun _ _ _ => False :=
    (silenced.notices.then_raise 0 (targetFailedNotice g) fun m y hy => by
      obtain ⟨-, rfl⟩ | ⟨i, -, -, -, -, rfl⟩ := hy <;> nofun).congr raised fun _ _ _ => Iff.rfl
  refine ⟨raiseNotice 0 (targetFailedNotice g) u, ?_, ?_, fun j other => ?_, fun m j => ?_, fun m => ?_, fun m k => ?_,
    fun m => ?_, fun i => ?_, fun m => ?_, fun i gone cause on => ?_, ?_, fun unique m => ?_, silenced.mailbox,
    silenced.engine, silenced.timer, silenced.resolverPointer, silenced.drst, silenced.pending⟩
  · rw [exec_responseTimerExpiry (by simp [TargetPort.inHold, beat, held]), ← hlow, expires]
  · rw [← expires, responseTimerExpires_target (by rw [target]; exact running), if_pos rfl, target]
    rfl
  · rw [← expires, responseTimerExpires_target (by rw [target]; exact running), if_neg other, hlow, setLines,
      State.target_setTarget, if_neg other]
  · rw [raiseNotice_port, hu, answerDown_waitingFor]
    refine if_congr Iff.rfl rfl ?_
    rw [State.silenced, State.port_setTarget, endFaulted_waitingFor, State.relieved, State.port_setTarget, hlow]
    rfl
  · rw [raiseNotice_port, (silenced.port m).responses, kept, List.map_append, List.map_map, ← List.append_assoc,
      apply_ite (List.map _)]
    rfl
  · refine ((silenced.port m).tags k).trans (if_congr (and_congr_right fun _ => ?_) rfl rfl)
    rw [endedOf_silence r g owner]
    simp only [List.mem_append, or_and_right, exists_or, exists_map_mk]
    exact or_congr_left (by split <;> simp [*, Running.silence])
  · have port := silenced.port m
    refine ⟨port.unresolved, port.aperture, port.returned, port.lineAsserted, port.reopenWait.trans ?_⟩
    rw [kept_silence_eq_self r g owner]
    rfl
  · rw [raiseNotice_window, silenced.window, Window.counts, endedThrough_silence]
  · rw [told.master m, silenced.master m, kept, List.map_append, List.map_map, apply_ite (List.map _)]
    rfl
  · exact (notices _).gains _ (.inr (.inr ⟨i, gone, cause, rfl, on, rfl⟩))
  · exact (notices 0).gains _ (.inl ⟨rfl, rfl⟩)
  · exact ((notices m).set (unique m)).2

end Sys2Proof.Machine
end
